-- ==== Sys2Proof/Word.lean ====
section
/-!
DEFINITION. The plain words of the VZ4820: bytes, levels and the sparse tables in which records are kept per index.
-/

namespace Sys2Proof

/-- One byte of the link, of clip memory or of an event detail. -/
abbrev Byte := BitVec 8

/-- A level in sixteenths of a decibel (00_scope.md, Levels). It is exact arithmetic that is clamped, never wrapped. -/
abbrev Level := Int

/-- A table of records by index: index and record, indices strictly rising. What an unlisted index stands for is said
by the operation that reads the table. -/
abbrev Sparse (α : Type) := List (Nat × α)

/-- A cue number major.point (00_scope.md, Cue numbers). A major of 0 stands for none on the link (R187). -/
structure CueNumber where
  major : Nat
  point : Nat
  deriving DecidableEq, Repr

/-- Cue numbers order first by major, then by point (00_scope.md). -/
def CueNumber.lt (a b : CueNumber) : Bool :=
  decide (a.major < b.major) || (decide (a.major = b.major) && decide (a.point < b.point))

/-- `a` is at or below `b` in cue-number order. -/
def CueNumber.le (a b : CueNumber) : Bool := a == b || a.lt b

end Sys2Proof
end

