-- ==== Sys2Proof/Syntax.lean ====
section
/-!
DEFINITION. The commands of the VZ4820: one constructor of `Instr` for each row of spec/opcode_table.json, with its
operands. The host's requests carry the tag of their frame and the fields of their body (R187), as the frame spells
them: a field may stand outside its range, since the part itself checks it.
-/

namespace Sys2Proof

/-! ### Records that requests carry -/

/-- The target of a call (R187: target kind GROUPS, ZONE). `invalid` is any other target kind. -/
inductive Target where
  | groups (mask : Nat)
  | zone (number : Nat)
  | invalid (kind value : Nat)
  deriving DecidableEq, Repr

/-- The payload of a call timer (R168). `invalid` is a payload kind that is neither EVENT_ONLY nor CALL. -/
inductive Payload where
  | eventOnly
  | call (clip : Nat) (target : Target)
  | invalid (kind clip : Nat) (target : Target)
  deriving DecidableEq, Repr

/-- The work of a cue action, by kind (02, Actions). `unknown` is a kind byte that is none of the eight (R28). -/
inductive Work where
  | fade (source bus : Nat) (level : Level) (time : Nat)
  | snap (id time : Nat)
  | play (player clip loops : Nat) (level : Level) (attack : Nat)
  | stop (player release : Nat)
  | call (clip : Nat) (target : Target) (cls : Nat)
  | govern (foldback : Nat) (level : Level)
  | timer (timer delay : Nat) (payload : Payload)
  | mark (id : Nat)
  | unknown (kind : Nat)
  deriving DecidableEq, Repr

/-- A cue action: its offset from the end of the prewait, and its work (02, Actions). -/
structure Action where
  offset : Nat
  work : Work
  deriving DecidableEq, Repr

/-- A cue record as WRITE CUE carries it; the follow field is its byte (R187: NONE 0, CONTINUE 1, FOLLOW 2). -/
structure CueBody where
  number : CueNumber
  cut : Bool
  follow : Nat
  prewait : Nat
  postwait : Nat
  actions : List Action
  deriving DecidableEq, Repr

/-- One entry of a snapshot: a crosspoint and a level (R33). -/
structure SnapEntry where
  source : Nat
  bus : Nat
  level : Level
  deriving DecidableEq, Repr

/-- The stored settings SET GOVERNOR carries (R124); `enable` is its flag byte. -/
structure GovernorBody where
  enable : Nat
  target : Level
  tolerance : Level
  stepMax : Level
  trimMin : Level
  trimMax : Level
  ceiling : Level
  deriving DecidableEq, Repr

/-- A directory entry as WRITE DIRECTORY ENTRY carries it (R95); `present` and `loopFlag` are flag bytes. -/
structure DirectoryBody where
  present : Nat
  firstPage : Nat
  length : Nat
  channels : Nat
  loopFlag : Nat
  loopStart : Nat
  loopEnd : Nat
  crc : BitVec 16
  deriving DecidableEq, Repr

/-- The stored fields SET ZONE carries (R146); `enabled` is its flag byte. -/
structure ZoneBody where
  enabled : Nat
  group : Nat
  relay : Level
  page : Level
  depth : Level
  deriving DecidableEq, Repr

/-- The fields of a PAGE request (R148): class, source kind (LIVE 0, CLIP 1), clip id and target. -/
structure PageBody where
  cls : Nat
  sourceKind : Nat
  clip : Nat
  target : Target
  deriving DecidableEq, Repr

/-- The paging settings SET PAGING carries (R147). -/
structure PagingBody where
  talkSource : Nat
  talkLevel : Level
  talkGroups : Nat
  attack : Nat
  release : Nat
  deriving DecidableEq, Repr

/-- The line settings SET LINE carries (R165): active level (HIGH 0, LOW 1), debounce, mode (LEVEL 0, TOGGLE 1). -/
structure LineBody where
  activeLevel : Nat
  debounce : Nat
  mode : Nat
  deriving DecidableEq, Repr

/-- The stop settings SET STOP carries (R159). -/
structure StopBody where
  depth : Level
  attack : Nat
  release : Nat
  announceBuses : Nat
  announceLevel : Level
  foldbackLevel : Level
  deriving DecidableEq, Repr

/-- A request of the host, as its frame's body spells it (R187, Request codes and body lengths). -/
inductive Request where
  | identify
  | status
  | takeEvent
  | setEventMask (mask : Nat)
  | resetDevice
  | enterShow
  | leaveShow
  | resetShow
  | hold (action : Nat)
  | showStop (action : Nat)
  | go
  | fire (number : CueNumber)
  | locate (number : CueNumber) (mode honourSkip : Nat)
  | readRunning
  | setSequencer (skipCut lockout : Nat)
  | writeCue (cue : CueBody)
  | readCue (number : CueNumber)
  | deleteCue (number : CueNumber)
  | listCues (number : CueNumber)
  | writeSnapshot (id : Nat) (entries : List SnapEntry)
  | readSnapshot (id : Nat)
  | deleteSnapshot (id : Nat)
  | preflight (verify : Nat)
  | readPreflight
  | setCrosspoint (source bus : Nat) (level : Level) (time : Nat)
  | readCrosspoint (source bus : Nat)
  | setBusMaster (bus : Nat) (level : Level)
  | readMeters
  | setGovernor (governor : Nat) (body : GovernorBody)
  | readGovernor (governor : Nat)
  | restartGovernor (governor : Nat)
  | play (player clip loops : Nat) (level : Level) (attack : Nat)
  | stopPlayer (player release : Nat)
  | readPlayer (player : Nat)
  | setPlayer (holdTime : Nat)
  | writePage (page : Nat) (data : List Byte)
  | readPage (page : Nat)
  | eraseSector (sector : Nat)
  | writeDirectoryEntry (clip : Nat) (body : DirectoryBody)
  | readDirectoryEntry (clip : Nat)
  | verifyClip (clip : Nat)
  | saveShow
  | loadShow
  | setZone (zone : Nat) (body : ZoneBody)
  | readZone (zone : Nat)
  | page (body : PageBody)
  | cancelPage (number : Nat)
  | readPageQueue
  | setPaging (body : PagingBody)
  | readClock
  | armTimer (timer timeKind time : Nat) (payload : Payload)
  | disarmTimer (timer : Nat)
  | readTimers
  | readMarks
  | readGoRecord
  | setLine (line : Nat) (body : LineBody)
  | setStop (body : StopBody)
  deriving DecidableEq, Repr

/-! ### Operands of the part's own steps -/

/-- What the part finds when it leaves reset: the rate straps (R176) and the capacity the flash answers with, in pages,
or none when it does not answer (R93). -/
structure ResetInputs where
  rateA : Bool
  rateB : Bool
  flashPages : Option Nat
  deriving DecidableEq, Repr

/-- How the events that fall due inside a time step are taken. `whole`: the step takes them all, in the model's order.
`split`: the step leaves them due, and the rows FADE_END, LINE_ASSERTION, PREWAIT_END, PLAY_END, ... take them one by
one in the order in which the commands stand (log entry 8). -/
inductive Taking where
  | whole
  | split
  deriving DecidableEq, Repr

/-- The choices the spec leaves open inside one millisecond boundary (R13, R52, R65, R86, R121, R153, R167, R173): whether
the HOLD, STOP and TALK lines, and the GO line, are delivered before HSU forms its values, and which blocks act on the old
published hold values or judge before the change. -/
structure BoundaryOrder where
  linesFirst : Bool := false
  goFirst : Bool := false
  mixOld : Bool := false
  seqOld : Bool := false
  plyOld : Bool := false
  fbgOld : Bool := false
  lampOld : Bool := false
  deriving DecidableEq, Repr

/-- What a millisecond boundary samples: the level of each event-line input, true for HIGH (R166). -/
structure BoundaryInputs where
  goHigh : Bool
  holdHigh : Bool
  stopHigh : Bool
  talkHigh : Bool
  deriving DecidableEq, Repr

/-- What a sample period takes in: the samples of the 32 input channels (R23), and whether the word-clock edge expected in the
period came and was valid (R163). -/
structure SampleInputs where
  channels : List Int
  edge : Bool
  deriving DecidableEq, Repr

/-- A whole frame as its bytes spell it: kind, code, tag, body and the two CRC bytes received (R177). Its length bytes are
the body's length. -/
structure Frame where
  kind : Byte
  code : Byte
  tag : Byte
  body : List Byte
  crc : BitVec 16
  deriving DecidableEq, Repr

/-! ### The commands -/

/-- The commands of the block: one constructor per row of spec/opcode_table.json. -/
inductive Instr where
  | powerOn (inputs : ResetInputs)
  | millisecondBoundary (inputs : BoundaryInputs) (order : BoundaryOrder) (taking : Taking)
  | samplePeriod (inputs : SampleInputs) (taking : Taking)
  | fadeEnd (slot : Nat)
  | clockLost
  | clockRestored
  | lineAssertion (line : Nat)
  | lineRelease (line : Nat)
  | debounceUnblock (line : Nat)
  | prewaitEnd (slot : Nat)
  | actionFire (slot index : Nat)
  | postwaitExpiry (slot : Nat)
  | playStart (player : Nat)
  | playEnd (player : Nat)
  | retriggerTailEnd (player : Nat)
  | holdTimerExpiry (player : Nat)
  | transferComplete (failed : Bool) (taking : Taking)
  | transferTimeLimit (taking : Taking)
  | governorWindowEnd
  | attackTimerExpiry
  | callVoiceStart
  | clipPageEnd
  | callTimerFire (timer : Nat)
  | frameReceived (frame : Frame) (taking : Taking)
  | frameLengthError (second : Byte) (taking : Taking)
  | frameGapTimeout
  | characterError
  | frameErrorItem
  | unknownRequest
  | replyTransmitted (taking : Taking)
  | deviceReset (inputs : ResetInputs)
  | identify (tag : Nat)
  | status (tag : Nat)
  | takeEvent (tag : Nat)
  | setEventMask (tag mask : Nat)
  | resetDevice (tag : Nat)
  | enterShow (tag : Nat)
  | leaveShow (tag : Nat)
  | resetShow (tag : Nat)
  | holdOn (tag : Nat)
  | holdOff (tag : Nat)
  | holdReport (tag : Nat)
  | showStopOn (tag : Nat)
  | showStopOff (tag : Nat)
  | showStopReport (tag : Nat)
  | go (tag : Nat)
  | fire (tag : Nat) (number : CueNumber)
  | locate (tag : Nat) (number : CueNumber) (mode honourSkip : Nat)
  | readRunning (tag : Nat)
  | setSequencer (tag skipCut lockout : Nat)
  | writeCue (tag : Nat) (cue : CueBody)
  | readCue (tag : Nat) (number : CueNumber)
  | deleteCue (tag : Nat) (number : CueNumber)
  | listCues (tag : Nat) (number : CueNumber)
  | writeSnapshot (tag id : Nat) (entries : List SnapEntry)
  | readSnapshot (tag id : Nat)
  | deleteSnapshot (tag id : Nat)
  | preflight (tag verify : Nat)
  | readPreflight (tag : Nat)
  | setCrosspoint (tag source bus : Nat) (level : Level) (time : Nat)
  | readCrosspoint (tag source bus : Nat)
  | setBusMaster (tag bus : Nat) (level : Level)
  | readMeters (tag : Nat)
  | setGovernor (tag governor : Nat) (body : GovernorBody)
  | readGovernor (tag governor : Nat)
  | restartGovernor (tag governor : Nat)
  | play (tag player clip loops : Nat) (level : Level) (attack : Nat)
  | stopPlayer (tag player release : Nat)
  | readPlayer (tag player : Nat)
  | setPlayer (tag holdTime : Nat)
  | writePage (tag page : Nat) (data : List Byte)
  | readPage (tag page : Nat)
  | eraseSector (tag sector : Nat)
  | writeDirectoryEntry (tag clip : Nat) (body : DirectoryBody)
  | readDirectoryEntry (tag clip : Nat)
  | verifyClip (tag clip : Nat)
  | saveShow (tag : Nat)
  | loadShow (tag : Nat)
  | setZone (tag zone : Nat) (body : ZoneBody)
  | readZone (tag zone : Nat)
  | page (tag : Nat) (body : PageBody)
  | cancelPage (tag number : Nat)
  | readPageQueue (tag : Nat)
  | setPaging (tag : Nat) (body : PagingBody)
  | readClock (tag : Nat)
  | armTimer (tag timer timeKind time : Nat) (payload : Payload)
  | disarmTimer (tag timer : Nat)
  | readTimers (tag : Nat)
  | readMarks (tag : Nat)
  | readGoRecord (tag : Nat)
  | setLine (tag line : Nat) (body : LineBody)
  | setStop (tag : Nat) (body : StopBody)
  | wordClockPresenceBroken
  | linkByteReceived (byte : Byte)
  deriving DecidableEq, Repr

end Sys2Proof
end

