-- ==== Sys2Proof/Decode.lean ====
section
/-!
DEFINITION. The commands that a word of the table's bits spells. No row of spec/opcode_table.json gives bits.
-/

namespace Sys2Proof

/-- The command a word spells: none, since the table gives no row any bits (log entry 1). -/
def decodeTableWord (_nbits _w : Nat) : Option Instr := none

end Sys2Proof
end

