-- ==== Sys2Proof/Config.lean ====
section
/-!
DEFINITION. What the spec leaves open for good: free values, constants with no body, so that no proof can see what they
are.
-/

namespace Sys2Proof

/-- A free byte for each draw and flash address. What a page or sector holds after a program or an erase that failed, and
how far one that a reset interrupted had come, is not stated (R101, R102, R110); these bytes stand there (log entry 6). -/
opaque Config.freeByte : Nat → Nat → Byte

end Sys2Proof
end

