-- ==== Sys2Proof/Machine/State.lean ====
section
/-!
DEFINITION. The state of the VZ4820 as plain data, block by block, and the machine right after reset. A table of records
by index lists only the records that differ from the one an index stands at when nothing has changed it.
-/

namespace Sys2Proof.Machine

/-! ### Shared records -/

/-- A gain code's glide over one millisecond (R18): the code in force on the last sample before the boundary, and the
code formed at the boundary. -/
structure Glide where
  g0 : Nat := 0
  g1 : Nat := 0
  deriving DecidableEq, Repr

/-- A running duck envelope (R131, R156): start, target, time and elapsed count. -/
structure Running where
  start : Level
  target : Level
  time : Nat
  elapsed : Nat
  deriving DecidableEq, Repr

/-- A duck value with its envelope, settled (`none`) or running (R129, R156). -/
structure Duck where
  value : Level := 0
  run : Option Running := none
  deriving DecidableEq, Repr

/-- An action of a running cue: the entry's slot and the action index, from 1 (R62). -/
structure Owner where
  slot : Nat
  index : Nat
  deriving DecidableEq, Repr

/-! ### Control link (10) -/

/-- The five states of the frame hunter (R177). -/
inductive HunterPhase where
  | hunting
  | length
  | header
  | body
  | check
  deriving DecidableEq, Repr

/-- The frame hunter: its phase, the body length once known, and the bytes received since the marker (R177). -/
structure Hunter where
  phase : HunterPhase := .hunting
  length : Nat := 0
  bytes : List Byte := []
  deriving DecidableEq, Repr

/-- What a request frame's code and body spell (R179): a request, a body of a wrong length, or a code not in the table. -/
inductive Parsed where
  | request (r : Request)
  | badLength (code : Nat)
  | unknown (code : Nat)
  deriving DecidableEq, Repr

/-- An item of the receive queue (R178): a complete request frame, with its duplicate mark, or a frame-error item. -/
inductive Item where
  | frameError
  | request (tag : Nat) (duplicate : Bool) (parsed : Parsed)
  deriving DecidableEq, Repr

/-- The status of a reply (R187, Status codes). -/
inductive Status where
  | ok
  | accepted
  | okClamped
  | frameError
  | unknownRequest
  | badLength
  | outOfRange
  | locked
  | busy
  | notFound
  | duplicate
  | full
  | inUse
  | held
  | lockout
  | endOfList
  | notClean
  | cut
  | stop
  deriving DecidableEq, Repr

/-- One field of a reply's contents at its width (R187): an unsigned value of one, two or four bytes, a signed 16-bit
level, a 24-bit mask, or raw data. -/
inductive Field where
  | u8 (value : Nat)
  | u16 (value : Nat)
  | u24 (value : Nat)
  | u32 (value : Nat)
  | level (value : Level)
  | bytes (data : List Byte)
  deriving DecidableEq, Repr

/-- A reply: the code and tag it echoes, its status and its contents (R180). -/
structure Reply where
  code : Nat
  tag : Nat
  status : Status
  contents : List Field
  deriving DecidableEq, Repr

/-- The request in hand while its reply is delayed (R179): a READ PAGE, by tag and page. -/
structure InHand where
  tag : Nat
  page : Nat
  deriving DecidableEq, Repr

/-- CLINK's state (R176 to R182). -/
structure Clink where
  rate : Nat := 0
  hunter : Hunter := {}
  gap : Nat := 0
  queue : List Item := []
  inHand : Option InHand := none
  replies : List Reply := []
  resetTaken : Bool := false
  errors : Nat := 0
  sent : Option Reply := none
  deriving DecidableEq, Repr

/-! ### Event reporter (10) -/

/-- An occupied event slot (R183); its kind and source are its index. -/
structure EventSlot where
  detail : List Byte
  count : Nat
  first : BitVec 32
  latest : BitVec 32
  deriving DecidableEq, Repr

/-- EVR's state: the kind mask (bit k - 1 masks kind k) and the occupied slots by kind and source (R183, R185). -/
structure Evr where
  mask : BitVec 18 := 0
  slots : Sparse EventSlot := []
  deriving DecidableEq, Repr

/-! ### Cue store (02) -/

/-- The follow mode of a cue (02, The cue list). -/
inductive Follow where
  | none
  | continue_
  | follow
  deriving DecidableEq, Repr

/-- A stored cue record (R26). -/
structure Cue where
  number : CueNumber
  cut : Bool
  prewait : Nat
  follow : Follow
  postwait : Nat
  actions : List Action
  deriving DecidableEq, Repr

/-- What a preflight finds (R40, R42). -/
inductive FaultKind where
  | missingSnapshot
  | missingClip
  | badClipCrc
  | emptyTarget
  | followAtEnd
  deriving DecidableEq, Repr

/-- A fault record of the preflight report (R42). -/
structure FaultRecord where
  cue : CueNumber
  action : Nat
  kind : FaultKind
  deriving DecidableEq, Repr

/-- The status of the preflight report (R44). -/
inductive ReportStatus where
  | none
  | running
  | complete
  | aborted
  | failed
  deriving DecidableEq, Repr

/-- The preflight report (R44). Its verify flag is clear while the status is NONE (log entry 31). -/
structure Report where
  status : ReportStatus := .none
  verify : Bool := false
  walked : Nat := 0
  total : Nat := 0
  records : List FaultRecord := []
  deriving DecidableEq, Repr

/-- CST's state (R26, R33, R37, R38, R44). -/
structure Cst where
  cues : List Cue := []
  snapshots : Sparse (List SnapEntry) := []
  lastRecalled : Option Nat := none
  lastRecallNumber : Nat := 0
  recalledSinceRead : Bool := false
  report : Report := {}
  clean : Bool := false
  deriving DecidableEq, Repr

/-! ### Sequencer (03) -/

/-- The show state (R46). -/
inductive ShowState where
  | setup
  | inShow
  deriving DecidableEq, Repr

/-- How a cue was fired (R59). -/
inductive Origin where
  | line
  | link
  | auto
  | fire
  deriving DecidableEq, Repr

/-- The phase of a running entry (R59). -/
inductive Phase where
  | prewait
  | active
  | done
  deriving DecidableEq, Repr

/-- The state of one action of a running entry (R59). -/
inductive ActionState where
  | unfired
  | outstanding
  | complete
  deriving DecidableEq, Repr

/-- The postwait of a running entry (R63). -/
inductive Postwait where
  | absent
  | waiting
  | running (remaining : Nat)
  | ended
  deriving DecidableEq, Repr

/-- What the auto-follow did (R59). -/
inductive FollowOutcome where
  | none
  | pending
  | fired
  | passed
  | refused
  | dropped
  deriving DecidableEq, Repr

/-- An entry of the running-cue table (R59); its slot is its index, its outstanding count is that of its action states,
and the cue record is the one that stood when the entry was created. -/
structure Entry where
  cue : Cue
  origin : Origin
  phase : Phase
  prewait : Nat
  elapsed : Nat
  states : List ActionState
  postwait : Postwait
  followTarget : Option CueNumber
  outcome : FollowOutcome
  deriving DecidableEq, Repr

/-- SEQ's state (R46, R47, R51, R59, R67). Standby is an index into the cue list, from 1. -/
structure Seq where
  showState : ShowState := .setup
  standby : Option Nat := none
  entries : Sparse Entry := []
  lockout : Nat := 0
  skipCut : Bool := true
  lockoutSetting : Nat := 250
  deriving DecidableEq, Repr

/-! ### Fade engine and mix matrix (01) -/

/-- Who is told when a fade ends (01, The fade-slot table). -/
inductive FadeOwner where
  | none
  | cue (owner : Owner)
  | recall (number : Nat) (requester : Option Owner)
  deriving DecidableEq, Repr

/-- An occupied fade slot (01, The fade-slot table); its number is its index. -/
structure FadeSlot where
  source : Nat
  bus : Nat
  start : Level
  target : Level
  duration : Nat
  elapsed : Nat
  owner : FadeOwner
  deriving DecidableEq, Repr

/-- A bus's meter record (R21). -/
structure Meter where
  peak : Nat := 0
  clips : Nat := 0
  deriving DecidableEq, Repr

/-- MIX's state. Crosspoint (S, B) is index (S - 1) * 25 + (B - 1) of `levels` and `codes` (R2, R18); `masters` and
`meters` are by bus (R3, R21); `slots` by slot number (R4). -/
structure Mix where
  levels : Sparse Level := []
  codes : Sparse Glide := []
  masters : Sparse Level := []
  slots : Sparse FadeSlot := []
  nextRecall : Nat := 1
  meters : Sparse Meter := []
  sample : Nat := 0
  tdmOut : List Int := []
  tdmNext : List Int := []
  deriving DecidableEq, Repr

/-! ### Clips (05), as players and the directory hold them -/

/-- A present directory entry (R95); loop points are absent or a start and an end. -/
structure DirEntry where
  firstPage : Nat
  length : Nat
  channels : Nat
  loop : Option (Nat × Nat)
  crc : BitVec 16
  deriving DecidableEq, Repr

/-- A block of a clip in a buffer, tagged with its block number (R72). A block placed as silence has no data (R88). -/
structure Block where
  number : Nat
  data : List Byte
  deriving DecidableEq, Repr

/-! ### Players (04) -/

/-- The states of a player with their details (R72, R73). -/
inductive PlayerState where
  | idle
  | loading
  | readyPreload
  | readyHold
  | playing
  | releasingStop
  | releasingRetrigger
  | pausedPlaying
  | pausedReleasing
  deriving DecidableEq, Repr

/-- A play that waits for its data (R72, R80), with the millisecond boundaries counted since it was taken (R79). -/
structure Play where
  clip : Nat
  loops : Nat
  level : Level
  attack : Nat
  owner : Option Owner
  waited : Nat
  deriving DecidableEq, Repr

/-- A player's reservation: the cue number, and whether its kind is FIRED (else STANDBY) (R72). -/
structure Reservation where
  cue : CueNumber
  fired : Bool
  deriving DecidableEq, Repr

/-- A player's own level envelope (R72, R79). -/
structure PlayerEnvelope where
  level : Level := -1536
  start : Level := -1536
  target : Level := -1536
  elapsed : Nat := 0
  time : Nat := 0
  deriving DecidableEq, Repr

/-- A player record (R72). `tail` holds the frames of a retrigger or pause tail still to be output (R80, R86), `ramp` the
next sample of a resume ramp (R86), `episode` that an underrun lasts (R87), `code` the envelope gain code's glide (R81),
`turnOwed` that the fetch points back to the loop start and the turn has still to be counted (R74, R79; log entry 12). -/
structure Player where
  state : PlayerState := .idle
  clip : Option Nat := none
  copy : Option DirEntry := none
  position : Nat := 0
  loops : Nat := 0
  fetchNext : Option Nat := none
  fetchLoops : Nat := 0
  turnOwed : Bool := false
  buffer : List Block := []
  env : PlayerEnvelope := {}
  code : Glide := {}
  pending : Option Play := none
  owner : Option Owner := none
  reservation : Option Reservation := none
  holdTimer : Option Nat := none
  underruns : Nat := 0
  lateStart : Nat := 0
  episode : Bool := false
  tail : List (Int × Int) := []
  ramp : Option Nat := none
  deriving DecidableEq, Repr

/-- PLY's state: the player records by number and the shared player hold time (R85). -/
structure Ply where
  players : Sparse Player := []
  holdTime : Nat := 5000
  deriving DecidableEq, Repr

/-! ### Foldback governor (06) -/

/-- A governor's stored settings (R112). -/
structure GovSettings where
  enable : Bool := false
  target : Level := -320
  tolerance : Level := 16
  stepMax : Level := 32
  trimMin : Level := -384
  trimMax : Level := 96
  ceiling : Level := -48
  deriving DecidableEq, Repr

/-- The states of a governor (R113). -/
inductive GovState where
  | off
  | gated
  | hunting
  | converged
  | frozen
  | stalled
  deriving DecidableEq, Repr

/-- A governor record (R112, R113). `gatedFrom` is present in GATED only; the freeze cause is two flags. -/
structure Governor where
  settings : GovSettings := {}
  enable : Bool := false
  target : Level := -320
  state : GovState := .off
  gatedFrom : Option GovState := none
  trim : Level := 0
  inBand : Nat := 0
  settle : Nat := 0
  lastSettle : Nat := 0
  rehunt : Bool := false
  ceilingCount : Nat := 0
  lastM : Level := -1536
  discard : Bool := false
  freezeHold : Bool := false
  freezeFade : Bool := false
  deriving DecidableEq, Repr

/-- FBG's state: the governor records by number, the milliseconds of the running window, and each foldback bus's sum of
y squared in it (R114). -/
structure Fbg where
  governors : Sparse Governor := []
  windowMs : Nat := 0
  sums : Sparse Nat := []
  deriving DecidableEq, Repr

/-! ### Relay and paging unit (07) -/

/-- A zone record (R129), with the glides of its relay and page codes (R130). -/
structure Zone where
  enabled : Bool := true
  group : Nat
  relay : Level := 0
  page : Level := 0
  depth : Level := -320
  duck : Duck := {}
  inPage : Bool := false
  paged : Bool := false
  clips : Nat := 0
  gr : Glide := {}
  gp : Glide := {}
  deriving DecidableEq, Repr

/-- The zone record of zone `n` with its default fields: group n / 3 rounded up (R129). -/
def Zone.initial (n : Nat) : Zone := { group := (n + 2) / 3 }

/-- The class of a page, in its order of urgency (R133). -/
inductive PageClass where
  | stop
  | talk
  | call
  | timed
  deriving DecidableEq, Repr

/-- What a page carries (R133). -/
inductive PageSource where
  | live
  | clip (id : Nat)
  deriving DecidableEq, Repr

/-- Where a page request came from (R133). -/
inductive PageOrigin where
  | link
  | line
  | action
  | timer
  | stop
  deriving DecidableEq, Repr

/-- A page record (R133): the target is a group mask and a zone set (rising), the holders are two flags. -/
structure Page where
  number : Nat
  cls : PageClass
  source : PageSource
  mask : Nat
  zones : List Nat
  origin : PageOrigin
  heldByLine : Bool
  heldByLink : Bool
  replayed : Bool
  deriving DecidableEq, Repr

/-- The active page (R138, R139): its record, its zone set as resolved, and for a CLIP page the attack timer remaining,
`none` once the attack is complete. -/
structure ActivePage where
  page : Page
  zoneSet : List Nat
  attack : Option Nat
  deriving DecidableEq, Repr

/-- The states of the call voice (R144). -/
inductive VoiceState where
  | idle
  | loading
  | playing
  deriving DecidableEq, Repr

/-- The call voice record (R144). `waited` counts the milliseconds since the attack completed; `episode` marks an
underrun that lasts (R145). -/
structure Voice where
  state : VoiceState := .idle
  page : Nat := 0
  clip : Nat := 0
  copy : Option DirEntry := none
  position : Nat := 0
  fetchNext : Option Nat := none
  buffer : List Block := []
  underruns : Nat := 0
  lateStart : Nat := 0
  waited : Nat := 0
  episode : Bool := false
  deriving DecidableEq, Repr

/-- The paging settings (R147). -/
structure PagingSettings where
  talkSource : Nat := 32
  talkLevel : Level := 0
  talkGroups : Nat := 255
  attack : Nat := 50
  release : Nat := 500
  deriving DecidableEq, Repr

/-- RPU's state (R129 to R150). -/
structure Rpu where
  zones : Sparse Zone := []
  settings : PagingSettings := {}
  queue : List Page := []
  active : Option ActivePage := none
  nextNumber : Nat := 1
  voice : Voice := {}
  talk : Glide := {}
  deriving DecidableEq, Repr

/-! ### Hold and stop unit (08) -/

/-- A running injection ramp (R157): start code, end code and the next sample, 0 to 479. `entering` marks a ramp in, and a
change of the code by SET STOP toward a code above 0 (R154, R155, R159; log entry 37). -/
structure Ramp where
  start : Nat
  target : Nat
  sample : Nat
  entering : Bool
  deriving DecidableEq, Repr

/-- An injection record: the code in force and its ramp, absent or running (R157). -/
structure Injection where
  code : Nat := 0
  ramp : Option Ramp := none
  deriving DecidableEq, Repr

/-- The stop settings (R158). -/
structure StopSettings where
  depth : Level := -1536
  attack : Nat := 300
  release : Nat := 1000
  announceBuses : Nat := 3
  announceLevel : Level := 0
  foldbackLevel : Level := -96
  deriving DecidableEq, Repr

/-- HSU's state (R151 to R161). `holdEffective` and `stopActive` are the values as published (R153). Injection records
are by bus, 1 to 20. -/
structure Hsu where
  holdLine : Bool := false
  holdRequest : Bool := false
  stopLine : Bool := false
  stopRequest : Bool := false
  holdEffective : Bool := false
  stopActive : Bool := false
  duck : Duck := {}
  injections : Sparse Injection := []
  settings : StopSettings := {}
  deriving DecidableEq, Repr

/-! ### Timing unit (09) -/

/-- The states of a line's debouncer (R166); `undecided` stands until the first sample after a reset or a change of active
level decides between BLOCKED and RELEASED. -/
inductive LineState where
  | undecided
  | released
  | asserted
  | blocked
  deriving DecidableEq, Repr

/-- An event line: its configuration (R165) and its debouncer (R166). -/
structure Line where
  activeHigh : Bool := false
  debounce : Nat := 10
  toggle : Bool := false
  state : LineState := .undecided
  count : Nat := 0
  deriving DecidableEq, Repr

/-- The states of a call timer (R168). -/
inductive TimerState where
  | disarmed
  | armed
  | fired
  deriving DecidableEq, Repr

/-- A call timer record (R168). -/
structure Timer where
  state : TimerState := .disarmed
  target : BitVec 32 := 0
  payload : Payload := .eventOnly
  late : Bool := false
  deriving DecidableEq, Repr

/-- A valid mark record (R171); an id with no record is invalid, with time 0 and no cue number. -/
structure Mark where
  time : BitVec 32
  cue : CueNumber
  deriving DecidableEq, Repr

/-- An entry of the GO record (R172). -/
structure GoEntry where
  cue : CueNumber
  time : BitVec 32
  origin : Origin
  interval : Nat
  deriving DecidableEq, Repr

/-- The standby lamp (R173); FLASHING carries its flash count. -/
inductive Lamp where
  | off
  | flashing (count : Nat)
  | steady
  deriving DecidableEq, Repr

/-- TMU's state (R162 to R175). `locked` is the selector's state, `present` that the word clock is present at the moment,
`missed` that its presence has been broken since reset, `judged` that the first judgement after reset has been made; the
absence and presence counts are kept in sample periods, 48 a millisecond (R163, R164; log entry 5). -/
structure Tmu where
  clock : BitVec 32 := 0
  locked : Bool := false
  present : Bool := false
  missed : Bool := false
  judged : Bool := false
  absence : Nat := 0
  presence : Nat := 0
  lines : Sparse Line := []
  timers : Sparse Timer := []
  marks : Sparse Mark := []
  goRecord : List GoEntry := []
  interval : Nat := 0
  lamp : Lamp := .off
  deriving DecidableEq, Repr

/-! ### Clip memory controller (05) -/

/-- Who a transfer serves (R98). -/
inductive Client where
  | player (number : Nat)
  | voice
  | link
  | verify
  deriving DecidableEq, Repr

/-- The four kinds of transfer with their place: the first page of a block read, a page, or a sector (R97). -/
inductive Extent where
  | blockRead (page : Nat)
  | pageRead (page : Nat)
  | pageProgram (page : Nat) (data : List Byte)
  | sectorErase (sector : Nat)
  deriving DecidableEq, Repr

/-- The transfer in flight (R97): its client, its extent, the clip block a playback read is for, the millisecond
boundaries since its grant, and whether its client still wants its data. -/
structure Transfer where
  client : Client
  extent : Extent
  block : Nat
  elapsed : Nat
  wanted : Bool
  deriving DecidableEq, Repr

/-- The phases of a show save (R106): the sector to erase next, the page to program next, or the block to read back next
with the bytes read so far. -/
inductive SavePhase where
  | erase (sector : Nat)
  | program (page : Nat)
  | readBack (block : Nat) (read : List Byte)
  deriving DecidableEq, Repr

/-- The phases of a show load (R107): the header read, the check pass and the build pass, each with the block to read next
and the bytes read so far, and the file length the header gives. -/
inductive LoadPhase where
  | header
  | check (block : Nat) (length : Nat) (read : List Byte)
  | build (block : Nat) (length : Nat) (read : List Byte)
  deriving DecidableEq, Repr

/-- The place of a preflight's walk (R40, R41): the cue index and action index checked next, the clips verified with their
results, and the clip being read, if any, with its entry, the block to read next and the CRC so far. -/
structure Walk where
  cue : Nat
  action : Nat
  verified : Sparse Bool
  reading : Option (Nat × DirEntry × Nat × BitVec 16)
  deriving DecidableEq, Repr

/-- The operation in the slot with its parameters, phase and progress (R100). -/
inductive Operation where
  | writePage (page : Nat) (data : List Byte) (readBack : Bool)
  | eraseSector (sector : Nat)
  | verifyClip (clip : Nat) (copy : DirEntry) (block : Nat) (crc : BitVec 16)
  | saveShow (file : List Byte) (phase : SavePhase)
  | load (startUp : Bool) (phase : LoadPhase)
  | preflight (verify : Bool) (walk : Walk)
  deriving DecidableEq, Repr

/-- CMC's state (R93 to R110). `flash` is the clip memory, a byte per address in canonical form. -/
structure Cmc where
  capacity : Nat := 1048576
  flash : List Host.Cell := []
  directory : Sparse DirEntry := []
  slot : Option Operation := some (.load true .header)
  transfer : Option Transfer := none
  linkWait : Nat := 0
  storedValid : Bool := false
  deriving DecidableEq, Repr

/-! ### The machine -/

/-- The state of the VZ4820, one field a block, with the queue of commands that wait and the counter that picks fresh
free values (Config.freeByte). -/
structure State where
  clink : Clink := {}
  evr : Evr := {}
  cst : Cst := {}
  seq : Seq := {}
  mix : Mix := {}
  ply : Ply := {}
  cmc : Cmc := {}
  fbg : Fbg := {}
  rpu : Rpu := {}
  hsu : Hsu := {}
  tmu : Tmu := {}
  draws : Nat := 0
  pending : List Instr := []
  deriving DecidableEq, Repr

/-- The machine right after reset: every block at its power-on values, the start-up show load in the operation slot and no
transfer in flight (R186, R109, R110). -/
def State.reset : State := {}

/-- Why the machine stops. The spec of the VZ4820 names no condition that stops the part: its errors are statuses, events
and counts. No meaning raises this fault (safe). -/
inductive Fault where
  /-- Raised by nothing: the part has no stopping condition (safe). -/
  | stopped
  deriving DecidableEq, Repr

/-- Why a command has no meaning. -/
inductive Refusal where
  /-- A command of the table that the model gives no meaning yet; no arm of exec answers it now (safe). -/
  | notModelled (mnemonic : String)
  deriving DecidableEq, Repr

end Sys2Proof.Machine
end

