-- ==== Sys2Proof/Machine/Arith.lean ====
section
/-!
DEFINITION. The arithmetic of the part: clamps and roundings, the fade law (R12), the gain table (R17), the glide (R18),
saturation (R19), levels of measurement (R22, R114), duck envelopes (R131, R156) and the CRC (R94).
-/

namespace Sys2Proof.Machine

/-- The level OFF (00_scope.md, Levels). -/
abbrev off : Level := -1536

/-- The highest level, +12 dB. -/
abbrev topLevel : Level := 192

/-- The fade floor F (00_scope.md, Levels). -/
abbrev fadeFloor : Level := -960

/-- The longest wait, offset or fade duration, 10 minutes (00_scope.md, Times). -/
abbrev longest : Nat := 600000

/-- `x` brought into `lo .. hi`. -/
def clampInt (lo hi x : Int) : Int := max lo (min hi x)

/-- A level brought into the range of levels (R1). -/
def clampLevel (x : Level) : Level := clampInt off topLevel x

/-- A level brought into the range OFF to 0 (R29, R112, R129, R158). -/
def clampDepth (x : Level) : Level := clampInt off 0 x

/-- A count increased by 1, saturating at `top` (00_scope.md, Counts). -/
def countUp (top n : Nat) : Nat := min top (n + 1)

/-- Rounding half away from zero of the exact quotient `num / den` (00_scope.md, Gain codes and samples). -/
def roundHalfAway (num : Int) (den : Nat) : Int :=
  num.sign * ((2 * num.natAbs + den) / (2 * den) : Nat)

/-- The limiting of a sum to the 24-bit range (R19). -/
def sat24 (y : Int) : Int := clampInt (-8388608) 8388607 y

/-- A level with OFF replaced by the fade floor (R5). -/
def floored (x : Level) : Level := if x = off then fadeFloor else x

/-- The fade law L(e): from S' toward T' in D ms with the product cut toward zero, and exactly T at e = D (R12). -/
def fadeLevel (start target : Level) (time elapsed : Nat) : Level :=
  if time ≤ elapsed then target
  else floored start + ((floored target - floored start) * elapsed).tdiv time

/-- A number built bit by bit from the highest: the greatest `n < 2 ^ bits` with `p n`, where `p` holds of 0 and, if it
holds of a number, of every smaller one. -/
def greatestFrom (p : Nat → Bool) : Nat → Nat → Nat
  | 0, acc => acc
  | bits + 1, acc => greatestFrom p bits (if p (acc + 2 ^ bits) then acc + 2 ^ bits else acc)

/-- 2^22 × 10^(v / 320) is at least n - 1/2: both sides doubled and raised to the power 320 (R17). -/
def gainReaches (v : Level) (n : Nat) : Bool :=
  decide (n = 0) || decide ((2 * n - 1) ^ 320 * 10 ^ (-v).toNat ≤ 2 ^ 7360 * 10 ^ v.toNat)

/-- The gain table g(v) = round-half-up(2^22 × 10^(v / 320)) for v from -1535 to +192 (R17). -/
def gainCode (v : Level) : Nat := greatestFrom (gainReaches v) 24 0

/-- The code of a level by itself: 0 for OFF, g of the level otherwise (R130, R132, R157). -/
def levelCode (x : Level) : Nat := if x = off then 0 else gainCode x

/-- A crosspoint's gain code from its level, its bus master and the bus adjustment (R17). -/
def crosspointCode (x master adjustment : Level) : Nat :=
  if x = off ∨ master = off then 0
  else if x + adjustment ≤ off then 0
  else gainCode (min topLevel (x + adjustment))

/-- A zone's relay code from its relay level and duck value (R130). -/
def relayCode (relay duck : Level) : Nat :=
  if relay = off then 0
  else if relay + duck ≤ off then 0
  else gainCode (min topLevel (relay + duck))

/-- The weight of sample `n` of the millisecond, 0 to 47 (R18). -/
def Glide.at (g : Glide) (n : Nat) : Int :=
  (g.g0 : Int) + (((g.g1 : Int) - g.g0) * (n + 1)).tdiv 48

/-- A glide at a boundary: the code formed last becomes the code in force, and `code` the one formed (R18). -/
def Glide.form (g : Glide) (code : Nat) : Glide := { g0 := g.g1, g1 := code }

/-- Minus the least `j` with `reach j`, limited to [-1536, 0]: the search behind the two measurements below, where `reach j`
says that the measured value reaches the lower end of level -j's rounding interval. -/
def measuredLevel (reach : Nat → Bool) : Level :=
  -((min 1536 (greatestFrom (fun n => decide (n = 0) || !reach (n - 1)) 11 0) : Nat) : Int)

/-- A meter peak as a level: round-half-away(320 × log10(peak / 2^23)), OFF for a peak of 0 (R22). The comparison with
level -j is the exact one of peak / 2^23 with 10^(-(2j + 1) / 640). -/
def meterLevel (peak : Nat) : Level :=
  if peak = 0 then off
  else measuredLevel fun j => decide (2 ^ 14720 ≤ peak ^ 640 * 10 ^ (2 * j + 1))

/-- A window's measurement from its sum of squares over 4800 samples: round-half-away(160 × log10(P / 2^46)), -1536 for
P = 0 (R114). The comparison with level -j is the exact one of P / 2^46 with 10^(-(2j + 1) / 320). -/
def windowLevel (sum : Nat) : Level :=
  if sum = 0 then off
  else measuredLevel fun j => decide ((4800 * 2 ^ 46) ^ 320 ≤ sum ^ 320 * 10 ^ (2 * j + 1))

/-! ### Duck envelopes -/

/-- An envelope started with a target and a time: it settles at once on a time of 0, a start equal to the target or both
OFF, and otherwise stands at its floor-substituted start (R131, R156). -/
def Duck.start (d : Duck) (target : Level) (time : Nat) : Duck :=
  if time = 0 ∨ d.value = target then { value := target, run := none }
  else { value := floored d.value, run := some { start := d.value, target, time, elapsed := 0 } }

/-- An envelope's advance at a millisecond boundary (R131, R156). -/
def Duck.advance (d : Duck) : Duck :=
  match d.run with
  | none => d
  | some r =>
    { value := fadeLevel r.start r.target r.time (r.elapsed + 1)
      run := if r.time ≤ r.elapsed + 1 then none else some { r with elapsed := r.elapsed + 1 } }

/-- A duck value limited to [depth, 0], as a change of the depth does it first (R146, R159). -/
def Duck.limit (d : Duck) (depth : Level) : Duck := { d with value := clampInt depth 0 d.value }

/-! ### The CRC -/

/-- One bit of the CRC with generator x^16 + x^12 + x^5 + 1 (R94). -/
def crcBit (c : BitVec 16) : BitVec 16 :=
  if c.msb then (c <<< 1) ^^^ 0x1021#16 else c <<< 1

/-- One byte of the CRC, most significant bit first (R94). -/
def crcByte (c : BitVec 16) (b : Byte) : BitVec 16 :=
  crcBit (crcBit (crcBit (crcBit (crcBit (crcBit (crcBit (crcBit
    (c ^^^ ((b.setWidth 16) <<< 8)))))))))

/-- The CRC carried on over some bytes. -/
def crcFrom (c : BitVec 16) (bytes : List Byte) : BitVec 16 := bytes.foldl crcByte c

/-- The CRC of a run of bytes, initial value FFFFh (R94). -/
def crcOf (bytes : List Byte) : BitVec 16 := crcFrom 0xFFFF#16 bytes

/-! ### Little-endian fields (R187) -/

/-- The unsigned value of some bytes, the first the least significant (R187). -/
def unsignedOf : List Byte → Nat
  | [] => 0
  | b :: rest => b.toNat + 256 * unsignedOf rest

/-- The signed 16-bit value of two bytes (R187, levels). -/
def signedOf (bytes : List Byte) : Int :=
  (BitVec.ofNat 16 (unsignedOf bytes)).toInt

/-- `count` bytes of an unsigned value, the least significant first (R187). -/
def bytesOf : Nat → Nat → List Byte
  | 0, _ => []
  | count + 1, n => BitVec.ofNat 8 n :: bytesOf count (n / 256)

/-- The two bytes of a signed 16-bit level (R187). -/
def levelBytes (x : Level) : List Byte := bytesOf 2 (BitVec.ofInt 16 x).toNat

/-- The three bytes of a cue number, or of none: major 0 (R187). -/
def cueBytes : Option CueNumber → List Byte
  | none => bytesOf 3 0
  | some n => bytesOf 2 n.major ++ bytesOf 1 n.point

end Sys2Proof.Machine
end

