-- ==== Sys2Proof/Machine/Sparse.lean ====
section
/-!
DEFINITION. Reading and writing sparse tables: indices strictly rising, nothing listed that an unlisted index stands for.
-/

namespace Sys2Proof.Machine

/-- The record at index `k`, if one is listed. -/
def sparseFind {α : Type} : Sparse α → Nat → Option α
  | [], _ => none
  | (j, w) :: rest, k => if j = k then some w else sparseFind rest k

/-- The table with the record at index `k` put (`some`) or taken out (`none`), indices kept rising. -/
def sparsePut {α : Type} : Sparse α → Nat → Option α → Sparse α
  | [], _, none => []
  | [], k, some v => [(k, v)]
  | (j, w) :: rest, k, o =>
    if j < k then (j, w) :: sparsePut rest k o
    else
      match o with
      | none => if j = k then rest else (j, w) :: rest
      | some v => if j = k then (k, v) :: rest else (k, v) :: (j, w) :: rest

/-- The record at index `k`, `d` where none is listed. -/
def sparseRead {α : Type} (d : α) (m : Sparse α) (k : Nat) : α := (sparseFind m k).getD d

/-- The table with `v` at index `k`; a record equal to `d`, what an unlisted index stands for, is not listed. -/
def sparseWrite {α : Type} [DecidableEq α] (d : α) (m : Sparse α) (k : Nat) (v : α) : Sparse α :=
  sparsePut m k (if v = d then none else some v)

/-- Indices strictly rise, and all lie above `low` when one is given. -/
def sparseRising {α : Type} : Option Nat → Sparse α → Bool
  | _, [] => true
  | low, (j, _) :: rest => low.all (fun l => decide (l < j)) && sparseRising (some j) rest

/-- The least index of `first .. first + count - 1` that the table does not list. -/
def sparseFree {α : Type} (m : Sparse α) (first : Nat) : Nat → Option Nat
  | 0 => none
  | count + 1 =>
    match sparseFind m first with
    | none => some first
    | some _ => sparseFree m (first + 1) count

/-- `f` done for each index of `first .. first + count - 1`, in rising order. -/
def forEach {σ : Type} (first : Nat) : Nat → (Nat → σ → σ) → σ → σ
  | 0, _, s => s
  | count + 1, f, s => forEach (first + 1) count f (f first s)

end Sys2Proof.Machine
end

