-- ==== Sys2Proof/Machine/Ops.lean ====
section
/-!
DEFINITION. The named operations over State: reading and writing the records of each block by index, the cue list and its
pools, the flash, targets and zones, and the completion report.
-/

namespace Sys2Proof.Machine

/-! ### One writer a block -/

/-- CLINK's state replaced. -/
def State.withClink (s : State) (c : Clink) : State := { s with clink := c }
/-- EVR's state replaced. -/
def State.withEvr (s : State) (e : Evr) : State := { s with evr := e }
/-- CST's state replaced. -/
def State.withCst (s : State) (c : Cst) : State := { s with cst := c }
/-- SEQ's state replaced. -/
def State.withSeq (s : State) (q : Seq) : State := { s with seq := q }
/-- MIX's state replaced. -/
def State.withMix (s : State) (m : Mix) : State := { s with mix := m }
/-- PLY's state replaced. -/
def State.withPly (s : State) (p : Ply) : State := { s with ply := p }
/-- CMC's state replaced. -/
def State.withCmc (s : State) (c : Cmc) : State := { s with cmc := c }
/-- FBG's state replaced. -/
def State.withFbg (s : State) (f : Fbg) : State := { s with fbg := f }
/-- RPU's state replaced. -/
def State.withRpu (s : State) (r : Rpu) : State := { s with rpu := r }
/-- HSU's state replaced. -/
def State.withHsu (s : State) (h : Hsu) : State := { s with hsu := h }
/-- TMU's state replaced. -/
def State.withTmu (s : State) (t : Tmu) : State := { s with tmu := t }

/-! ### Records by index -/

/-- The index of crosspoint (source, bus) in MIX's tables. -/
def crosspoint (source bus : Nat) : Nat := (source - 1) * 25 + (bus - 1)

/-- A crosspoint's level (R2). -/
def levelOf (s : State) (source bus : Nat) : Level :=
  sparseRead off s.mix.levels (crosspoint source bus)

/-- A crosspoint's level written (R2). -/
def setLevel (source bus : Nat) (x : Level) (s : State) : State :=
  s.withMix { s.mix with levels := sparseWrite off s.mix.levels (crosspoint source bus) x }

/-- A bus master (R3). -/
def masterOf (s : State) (bus : Nat) : Level := sparseRead 0 s.mix.masters bus

/-- A bus's meter record (R21). -/
def meterOf (s : State) (bus : Nat) : Meter := sparseRead {} s.mix.meters bus

/-- A player record (R72). -/
def playerOf (s : State) (n : Nat) : Player := sparseRead {} s.ply.players n

/-- A player record written. -/
def setPlayerRecord (n : Nat) (p : Player) (s : State) : State :=
  s.withPly { s.ply with players := sparseWrite {} s.ply.players n p }

/-- A governor record (R112). -/
def governorOf (s : State) (n : Nat) : Governor := sparseRead {} s.fbg.governors n

/-- A governor record written. -/
def setGovernorRecord (n : Nat) (g : Governor) (s : State) : State :=
  s.withFbg { s.fbg with governors := sparseWrite {} s.fbg.governors n g }

/-- A zone record (R129). -/
def zoneOf (s : State) (n : Nat) : Zone := sparseRead (Zone.initial n) s.rpu.zones n

/-- A zone record written. -/
def setZoneRecord (n : Nat) (z : Zone) (s : State) : State :=
  s.withRpu { s.rpu with zones := sparseWrite (Zone.initial n) s.rpu.zones n z }

/-- An injection record (R157). -/
def injectionOf (s : State) (bus : Nat) : Injection := sparseRead {} s.hsu.injections bus

/-- An injection record written. -/
def setInjection (bus : Nat) (i : Injection) (s : State) : State :=
  s.withHsu { s.hsu with injections := sparseWrite {} s.hsu.injections bus i }

/-- An event line's record (R165, R166). -/
def lineOf (s : State) (n : Nat) : Line := sparseRead {} s.tmu.lines n

/-- An event line's record written. -/
def setLineRecord (n : Nat) (l : Line) (s : State) : State :=
  s.withTmu { s.tmu with lines := sparseWrite {} s.tmu.lines n l }

/-- A call timer (R168). -/
def timerOf (s : State) (n : Nat) : Timer := sparseRead {} s.tmu.timers n

/-- A call timer written. -/
def setTimerRecord (n : Nat) (t : Timer) (s : State) : State :=
  s.withTmu { s.tmu with timers := sparseWrite {} s.tmu.timers n t }

/-- A clip's directory entry, if present (R95). -/
def clipEntry (s : State) (clip : Nat) : Option DirEntry := sparseFind s.cmc.directory clip

/-! ### States of the part that several blocks read -/

/-- Whether a show load is in progress: the load is in the operation slot (R109). -/
def loading (s : State) : Bool :=
  match s.cmc.slot with
  | some (.load _ _) => true
  | _ => false

/-- Whether SAVE SHOW occupies the operation slot (R106). -/
def saving (s : State) : Bool :=
  match s.cmc.slot with
  | some (.saveShow _ _) => true
  | _ => false

/-- Whether the show state is SHOW (R46). -/
def inShow (s : State) : Bool := s.seq.showState == .inShow

/-- Whether hold is effective, as published (R153). -/
def holding (s : State) : Bool := s.hsu.holdEffective

/-! ### The cue list (R26, R27) -/

/-- A cue number is in range: major 1-9999, point 0-9 (R28). -/
def cueNumberInRange (n : CueNumber) : Bool :=
  decide (1 ≤ n.major ∧ n.major ≤ 9999 ∧ n.point ≤ 9)

/-- The index of the cue with this number, from 1, `at` being the first cue's index. -/
def cueIndexFrom (cues : List Cue) (number : CueNumber) (first : Nat) : Option Nat :=
  match cues with
  | [] => none
  | c :: rest => if c.number = number then some first else cueIndexFrom rest number (first + 1)

/-- The index of the cue with this number (R26). -/
def cueIndex (s : State) (number : CueNumber) : Option Nat := cueIndexFrom s.cst.cues number 1

/-- The cue at an index, from 1 (R26). -/
def cueAt (s : State) (index : Nat) : Option Cue :=
  if index = 0 then none else s.cst.cues[index - 1]?

/-- The cue with this number. -/
def cueNamed (s : State) (number : CueNumber) : Option Cue :=
  s.cst.cues.find? fun c => c.number == number

/-- The action pool's free count (R27). -/
def actionPoolFree (s : State) : Nat := 4096 - (s.cst.cues.map fun c => c.actions.length).sum

/-- The snapshot entry pool's free count (R33). -/
def entryPoolFree (s : State) : Nat := 4096 - (s.cst.snapshots.map fun e => e.2.length).sum

/-- The lowest index above `after` of a cue `ok` holds of, `first` being the index of the list's head. -/
def firstIndexFrom (ok : Cue → Bool) (cues : List Cue) (after first : Nat) : Option Nat :=
  match cues with
  | [] => none
  | c :: rest =>
    if decide (after < first) && ok c then some first else firstIndexFrom ok rest after (first + 1)

/-- A cue is eligible when skip-cut is clear or its cut mark is clear (R47). -/
def eligible (s : State) (c : Cue) : Bool := !s.seq.skipCut || !c.cut

/-- The next eligible cue after an index, as an index; after 0 it is the first eligible cue (R47). -/
def nextEligible (s : State) (after : Nat) : Option Nat :=
  firstIndexFrom (eligible s) s.cst.cues after 1

/-- The standby cue's number, or none (R47). -/
def standbyNumber (s : State) : Option CueNumber :=
  s.seq.standby.bind fun i => (cueAt s i).map fun c => c.number

/-! ### The running-cue table (R59) -/

/-- The entry's outstanding count: its actions fired and not yet complete (R59). -/
def Entry.outstanding (e : Entry) : Nat := (e.states.filter fun a => a == .outstanding).length

/-- The slot of the entry that runs the cue with this number. -/
def entryRunning (s : State) (number : CueNumber) : Option Nat :=
  (s.seq.entries.find? fun e => e.2.cue.number == number).map fun e => e.1

/-- An entry written, or its slot freed. -/
def setEntry (slot : Nat) (e : Option Entry) (s : State) : State :=
  s.withSeq { s.seq with entries := sparsePut s.seq.entries slot e }

/-- A completion report: an OUTSTANDING action of an entry becomes COMPLETE; any other report is ignored (R62). What
becomes due by it is taken when SEQ next settles. -/
def reportComplete (owner : Owner) (s : State) : State :=
  match sparseFind s.seq.entries owner.slot with
  | none => s
  | some e =>
    if owner.index ≠ 0 ∧ e.states[owner.index - 1]? = some .outstanding then
      setEntry owner.slot (some { e with states := e.states.set (owner.index - 1) .complete }) s
    else s

/-- A completion report to an owner that may be none. -/
def tell (owner : Option Owner) (s : State) : State :=
  match owner with
  | none => s
  | some o => reportComplete o s

/-! ### Targets (R133, R40) -/

/-- Whether zone `n`'s group is in the mask (bit k - 1 is group k). -/
def inMask (mask group : Nat) : Bool := mask.testBit (group - 1)

/-- The enabled zones a group mask and a zone set select (R133), rising. -/
def zonesSelected (s : State) (mask : Nat) (zones : List Nat) : List Nat :=
  (List.range' 1 24).filter fun n =>
    (zoneOf s n).enabled && (inMask mask (zoneOf s n).group || zones.contains n)

/-- A target as a group mask and a zone set (R133). -/
def targetSpread : Target → Nat × List Nat
  | .groups mask => (mask, [])
  | .zone n => (0, [n])
  | .invalid _ _ => (0, [])

/-- A target is in range: a mask of 1-255 or a zone 1-24 (R28, R148, R168). -/
def targetInRange : Target → Bool
  | .groups mask => decide (1 ≤ mask ∧ mask ≤ 255)
  | .zone n => decide (1 ≤ n ∧ n ≤ 24)
  | .invalid _ _ => false

/-- Whether a target selects at least one enabled zone (R40, R135). -/
def targetSelectsAny (t : Target) (s : State) : Bool :=
  !(zonesSelected s (targetSpread t).1 (targetSpread t).2).isEmpty

/-! ### Clip memory (R93) -/

/-- What an address that the flash does not list reads as: an erased byte (R93). -/
abbrev erased : Byte := 0xFF

/-- The flash is in canonical form: addresses strictly rising, no erased byte listed. -/
def Memory.wf (m : List Host.Cell) : Bool := sparseRising none m && m.all fun c => c.2 != erased

/-- One byte of the flash (R93). -/
def flashByte (m : List Host.Cell) (a : Nat) : Byte := sparseRead erased m a

/-- One byte of the flash set. -/
def flashSet (m : List Host.Cell) (a : Nat) (b : Byte) : List Host.Cell := sparseWrite erased m a b

/-- `count` bytes of the flash from an address on. -/
def flashRead (m : List Host.Cell) (a : Nat) : Nat → List Byte
  | 0 => []
  | count + 1 => flashByte m a :: flashRead m (a + 1) count

/-- Some bytes stored over the flash from an address on, each combined with the byte that stands there. -/
def flashStore (f : Byte → Byte → Byte) (m : List Host.Cell) (a : Nat) : List Byte → List Host.Cell
  | [] => m
  | b :: rest => flashStore f (flashSet m a (f (flashByte m a) b)) (a + 1) rest

/-- A page programmed: bits can only change from 1 to 0 (R93). -/
def flashProgram (m : List Host.Cell) (page : Nat) (data : List Byte) : List Host.Cell :=
  flashStore (fun was b => was &&& b) m (page * 1024) data

/-- A sector erased: its 64 pages read FFh (R93, R102). -/
def flashErase (m : List Host.Cell) (sector : Nat) : List Host.Cell :=
  m.filter fun c => decide (c.1 < sector * 65536 ∨ sector * 65536 + 65536 ≤ c.1)

/-- `count` free bytes of one draw from an address on (Config.freeByte). -/
def freeBytes (draw a : Nat) : Nat → List Byte
  | 0 => []
  | count + 1 => Config.freeByte draw a :: freeBytes draw (a + 1) count

/-- Whether CMC's transfer in flight is this client's: it is then not wanted any more (R97). -/
def discardTransfer (client : Client) (s : State) : State :=
  match s.cmc.transfer with
  | none => s
  | some t =>
    if t.client = client then s.withCmc { s.cmc with transfer := some { t with wanted := false } } else s

end Sys2Proof.Machine
end

