-- ==== Sys2Proof/Machine/Flags.lean ====
section
/-!
DEFINITION. The event reporter's table (R183 to R185): event kinds, raising, the ATTN output, and taking an event.
-/

namespace Sys2Proof.Machine

/-- The event kinds, in their order of priority (R184). -/
inductive EventKind where
  | showStop
  | clock
  | memoryFault
  | playerUnderrun
  | govAlert
  | goRefused
  | pagePreempted
  | pageDropped
  | timerFired
  | endOfList
  | cutPassed
  | cueFired
  | cueDone
  | opDone
  | fadeSteal
  | govRehunt
  | busClip
  | link
  deriving DecidableEq, Repr

/-- A kind's number, 1 to 18 (R184). -/
def EventKind.number : EventKind → Nat
  | .showStop => 1
  | .clock => 2
  | .memoryFault => 3
  | .playerUnderrun => 4
  | .govAlert => 5
  | .goRefused => 6
  | .pagePreempted => 7
  | .pageDropped => 8
  | .timerFired => 9
  | .endOfList => 10
  | .cutPassed => 11
  | .cueFired => 12
  | .cueDone => 13
  | .opDone => 14
  | .fadeSteal => 15
  | .govRehunt => 16
  | .busClip => 17
  | .link => 18

/-- The index of an event slot in the table: by kind, then by source (no source is above 25), so that the table's order is
the chooser's order (R184). -/
def eventIndex (kind source : Nat) : Nat := kind * 32 + source

/-- Some bytes filled up with zeros to the eight bytes of a detail (R183, Event details). -/
def detailOf (bytes : List Byte) : List Byte := (bytes ++ List.replicate 8 0).take 8

/-- Whether a kind is masked (R185). -/
def masked (s : State) (kind : EventKind) : Bool := s.evr.mask.getLsbD (kind.number - 1)

/-- An event raised: not recorded when its kind is masked; otherwise it occupies its free slot with count 1, or merges into
the occupied one (R183). -/
def raiseEvent (kind : EventKind) (source : Nat) (detail : List Byte) (s : State) : State :=
  if masked s kind then s
  else
    let index := eventIndex kind.number source
    let slot : EventSlot :=
      match sparseFind s.evr.slots index with
      | none => { detail := detailOf detail, count := 1, first := s.tmu.clock, latest := s.tmu.clock }
      | some e => { e with detail := detailOf detail, count := countUp 255 e.count, latest := s.tmu.clock }
    s.withEvr { s.evr with slots := sparsePut s.evr.slots index (some slot) }

/-- ATTN is asserted exactly while an event slot is occupied (R183). -/
def State.attn (s : State) : Bool := !s.evr.slots.isEmpty

/-- The event slot that is taken next: the lowest kind, and of it the lowest source (R184). -/
def chosenEvent (s : State) : Option (Nat × EventSlot) := s.evr.slots.head?

/-! ### The numbers of enumerated values in details and replies (R187) -/

/-- How a GO's origin is numbered (R184, R187). -/
def Origin.number : Origin → Nat
  | .line => 0
  | .link => 1
  | .auto => 2
  | .fire => 3

/-- How a page's class is numbered (R133). -/
def PageClass.number : PageClass → Nat
  | .stop => 0
  | .talk => 1
  | .call => 2
  | .timed => 3

/-- How a page's origin is numbered as an event source (R135). -/
def PageOrigin.number : PageOrigin → Nat
  | .link => 1
  | .line => 2
  | .action => 3
  | .timer => 4
  | .stop => 5

/-- How a page's source is numbered: LIVE 0, CLIP 1. -/
def PageSource.number : PageSource → Nat
  | .live => 0
  | .clip _ => 1

/-- The clip id of a page's source, 0 for LIVE (R187, Event details). -/
def PageSource.clipOrZero : PageSource → Nat
  | .live => 0
  | .clip id => id

/-- A flag as a number. -/
def flagNumber (b : Bool) : Nat := if b then 1 else 0

/-- MEMORY_FAULT of a player (source 1-8) or the call voice (9): cause, clip id and block (R77, R88, R145). -/
def raisePlaybackFault (source cause clip block : Nat) (s : State) : State :=
  raiseEvent .memoryFault source (bytesOf 1 cause ++ bytesOf 2 clip ++ bytesOf 4 block) s

/-- PLAYER_UNDERRUN of a player or the call voice: clip id and position (R87, R145). -/
def raiseUnderrun (source clip position : Nat) (s : State) : State :=
  raiseEvent .playerUnderrun source (bytesOf 2 clip ++ bytesOf 4 position) s

end Sys2Proof.Machine
end

