-- ==== Sys2Proof/Machine/Governor.lean ====
section
/-!
DEFINITION. The foldback governors: the freeze, the judgement of a window, the GOVERN action and the settings (R111 to R128).
-/

namespace Sys2Proof.Machine

/-! ### The freeze (R120) -/

/-- Whether an occupied fade slot carries a crosspoint of foldback bus FBn (R4, first view). -/
def fadeOnFoldback (s : State) (n : Nat) : Bool := s.mix.slots.any fun f => f.2.bus == 8 + n

/-- The freeze condition of governor n (R120). -/
def freezeCondition (s : State) (n : Nat) : Bool := holding s || fadeOnFoldback s n

/-- Whether a governor hunts or has converged, or is gated from one of the two (R120). -/
def Governor.freezable (g : Governor) : Bool :=
  match g.state with
  | .hunting | .converged => true
  | .gated => g.gatedFrom == some .hunting || g.gatedFrom == some .converged
  | _ => false

/-- A governor put into FROZEN: counts 0, gated from dropped (R120). -/
def Governor.freeze (g : Governor) : Governor :=
  { g with state := .frozen, inBand := 0, settle := 0, gatedFrom := none }

/-- A governor that would hunt: HUNTING, or FROZEN while the freeze condition holds; counts 0 and gated from dropped (R120). -/
def Governor.hunt (frozen : Bool) (g : Governor) : Governor :=
  { g with state := if frozen then .frozen else .hunting, inBand := 0, settle := 0, gatedFrom := none }

/-- Governor n acts on the freeze condition as it stands, and its freeze cause is kept current (R120, R121). -/
def refreshFreeze (n : Nat) (s : State) : State :=
  let g := { governorOf s n with freezeHold := holding s, freezeFade := fadeOnFoldback s n }
  setGovernorRecord n (if freezeCondition s n && g.freezable then g.freeze else g) s

/-- The governor of a bus, if it is a foldback bus, acts on the freeze condition. -/
def refreshFreezeOfBus (bus : Nat) (s : State) : State :=
  if 9 ≤ bus ∧ bus ≤ 20 then refreshFreeze (bus - 8) s else s

/-- All twelve governors act on the freeze condition. -/
def refreshAllFreezes (s : State) : State := forEach 1 12 refreshFreeze s

/-! ### Judging a window (R114 to R119) -/

/-- GOV_ALERT: cause CEILING 0 or STALL 1, trim and m (R115, R117). -/
def raiseGovAlert (n cause : Nat) (trim m : Level) (s : State) : State :=
  raiseEvent .govAlert n (bytesOf 1 cause ++ levelBytes trim ++ levelBytes m) s

/-- The trim the ceiling leaves (R115). -/
def Governor.ceilingTrim (g : Governor) : Level := max (g.trim - g.settings.stepMax) g.settings.trimMin

/-- The ceiling's action on the trim and its count (R115). -/
def Governor.underCeiling (g : Governor) : Governor :=
  { g with trim := g.ceilingTrim, ceilingCount := countUp 65535 g.ceilingCount }

/-- The trim after a step against error `e` (R117). -/
def Governor.steppedTrim (g : Governor) (e : Level) : Level :=
  clampInt g.settings.trimMin g.settings.trimMax
    (g.trim + clampInt (-g.settings.stepMax) g.settings.stepMax (e.tdiv 4))

/-- An out-of-band window's counts, and the stall check (R117). -/
def Governor.outOfBand (g : Governor) : Governor :=
  { g with
    state := if countUp 64 g.settle = 64 then .stalled else .hunting
    inBand := 0
    settle := countUp 64 g.settle }

/-- A governor stored, with GOV_ALERT STALL raised when it has just stalled (R117). -/
def storeJudged (n : Nat) (m : Level) (g : Governor) (s : State) : State :=
  let s' := setGovernorRecord n g s
  if g.state = .stalled then raiseGovAlert n 1 g.trim m s' else s'

/-- What follows the ceiling by state (R115). A GATED governor's loud window follows the row of its gated from. -/
def afterCeiling (n : Nat) (from_ : GovState) (m : Level) (g : Governor) (s : State) : State :=
  match from_ with
  | .hunting => storeJudged n m { g.outOfBand with gatedFrom := none } s
  | .converged =>
    storeJudged n m { { g with rehunt := true, settle := 0 }.outOfBand with gatedFrom := none } s
  | .stalled =>
    if freezeCondition s n then setGovernorRecord n g.freeze s
    else storeJudged n m { { g with settle := 0 }.outOfBand with gatedFrom := none } s
  | _ => setGovernorRecord n g s

/-- A window taken in HUNTING, past the ceiling and the gate (R117). -/
def judgeHunting (n : Nat) (m : Level) (g : Governor) (s : State) : State :=
  let e := g.target - m
  if e.natAbs ≤ g.settings.tolerance then
    let settle := if g.inBand = 0 then countUp 64 g.settle else g.settle
    if g.inBand + 1 = 3 then
      setGovernorRecord n
        { g with state := .converged, inBand := 3, lastSettle := settle, settle := 0, gatedFrom := none } s
    else
      setGovernorRecord n
        { g with state := .hunting, inBand := g.inBand + 1, settle := settle, gatedFrom := none } s
  else storeJudged n m { { g with trim := g.steppedTrim e }.outOfBand with gatedFrom := none } s

/-- A window taken in CONVERGED, past the ceiling and the gate (R118). -/
def judgeConverged (n : Nat) (m : Level) (g : Governor) (s : State) : State :=
  let e := g.target - m
  if e.natAbs ≤ 2 * g.settings.tolerance then
    setGovernorRecord n { g with state := .converged, gatedFrom := none } s
  else
    storeJudged n m
      { { g with rehunt := true, settle := 0, trim := g.steppedTrim e }.outOfBand with gatedFrom := none }
      (raiseEvent .govRehunt n (levelBytes m ++ levelBytes g.trim) s)

/-- A window judged by the state it is judged in, past the ceiling and the gate (R116 to R119). -/
def judgeIn (n : Nat) (from_ : GovState) (m : Level) (g : Governor) (s : State) : State :=
  match from_ with
  | .hunting => judgeHunting n m g s
  | .converged => judgeConverged n m g s
  | .stalled => setGovernorRecord n { g with state := .stalled, gatedFrom := none } s
  | _ => setGovernorRecord n g s

/-- The state a window is judged in: the gated from of a GATED governor, its state otherwise (R116). -/
def Governor.judgedIn (g : Governor) : GovState :=
  if g.state = .gated then g.gatedFrom.getD .hunting else g.state

/-- Governor n's judgement of the window that ends, measured as m (R114 to R119). A loud window that also stalls raises CEILING
first and STALL after it (log entry 17). -/
def judgeWindow (n : Nat) (m : Level) (s : State) : State :=
  let g := { governorOf s n with lastM := m }
  let alone := g.discard || g.state == .frozen
  let loud := decide (g.settings.ceiling < m)
  if g.state = .off then setGovernorRecord n g s
  else if alone then
    let g1 := if loud then g.underCeiling else g
    let g2 := { g1 with discard := false }
    let s1 := if loud then raiseGovAlert n 0 g1.trim m s else s
    setGovernorRecord n (if g2.state = .frozen ∧ freezeCondition s n = false then g2.hunt false else g2) s1
  else if loud then
    afterCeiling n g.judgedIn m g.underCeiling (raiseGovAlert n 0 g.ceilingTrim m s)
  else if m < fadeFloor then
    setGovernorRecord n { g with state := .gated, gatedFrom := some g.judgedIn } s
  else judgeIn n g.judgedIn m g s

/-- The window's end: every governor measures its bus and judges, and the next window begins (R114). -/
def windowEnd (s : State) : State :=
  let s' := forEach 1 12 (fun n t => judgeWindow n (windowLevel (sparseRead 0 s.fbg.sums n)) t) s
  s'.withFbg { s'.fbg with sums := [], windowMs := s'.fbg.windowMs - 100 }

/-! ### The GOVERN action (R123) -/

/-- A governor disabled: OFF with its trim held, counts, gated from and discard cleared (R123). -/
def Governor.disable (g : Governor) : Governor :=
  { g with state := .off, inBand := 0, settle := 0, gatedFrom := none, discard := false }

/-- A GOVERN action on governor n (R123). -/
def governAction (n : Nat) (level : Level) (s : State) : State :=
  let g := governorOf s n
  let frozen := freezeCondition s n
  if level = off then setGovernorRecord n { g.disable with enable := false } s
  else
    let g1 := { g with target := level, enable := true }
    setGovernorRecord n
      (match g.state with
      | .off | .converged | .stalled => { g1.hunt frozen with discard := true }
      | .hunting => { g1 with inBand := 0 }
      | .gated =>
        if frozen then g1.freeze
        else { g1 with gatedFrom := some .hunting, inBand := 0 }
      | .frozen => g1) s

/-! ### Settings, restart and reset (R124, R125, R127, R128) -/

/-- A governor's stored settings put in force: the working pair copied, the trim limited, OFF or HUNTING (FROZEN while the
freeze condition holds) with counts 0 and discard set (R124, R127). -/
def applyGovSettings (n : Nat) (settings : GovSettings) (s : State) : State :=
  let g := governorOf s n
  let g1 := { g with
    settings := settings, enable := settings.enable, target := settings.target
    trim := clampInt settings.trimMin settings.trimMax g.trim }
  setGovernorRecord n
    (if settings.enable then { g1.hunt (freezeCondition s n) with discard := true } else g1.disable) s

/-- RESTART GOVERNOR on governor n (R125). -/
def restartGovernor (n : Nat) (s : State) : State :=
  let g := { governorOf s n with trim := 0, rehunt := false }
  setGovernorRecord n
    (if g.enable then { g.hunt (freezeCondition s n) with discard := true } else g.disable) s

/-- The show reset of governor n: the working pair copied, trim 0, RE-HUNT clear (R128). -/
def resetGovernor (n : Nat) (s : State) : State :=
  let g := governorOf s n
  let g1 := { g with enable := g.settings.enable, target := g.settings.target, trim := 0, rehunt := false }
  setGovernorRecord n
    (if g1.enable then { g1.hunt (freezeCondition s n) with discard := true } else g1.disable) s

/-- The settings SET GOVERNOR stores: each number brought to the nearer end of its range (R112, R124). -/
def govSettingsOf (b : GovernorBody) : GovSettings where
  enable := b.enable == 1
  target := clampDepth b.target
  tolerance := clampInt 4 96 b.tolerance
  stepMax := clampInt 4 96 b.stepMax
  trimMin := clampInt (-480) 0 b.trimMin
  trimMax := clampInt 0 192 b.trimMax
  ceiling := clampInt (-480) 0 b.ceiling

/-- The body that carries some stored settings (R105, R126). -/
def GovSettings.body (g : GovSettings) : GovernorBody where
  enable := flagNumber g.enable
  target := g.target
  tolerance := g.tolerance
  stepMax := g.stepMax
  trimMin := g.trimMin
  trimMax := g.trimMax
  ceiling := g.ceiling

end Sys2Proof.Machine
end

