-- ==== Sys2Proof/Machine/Matrix.lean ====
section
/-!
DEFINITION. The fade engine and mix matrix: fade requests, takeover and steal, recalls, the fade advance, bus adjustments
and gain codes, and MIX's show reset (R1 to R18, R25).
-/

namespace Sys2Proof.Machine

/-! ### The fade-slot table (R4) -/

/-- The slot that carries a fade on a crosspoint, if any (R2, R4). -/
def slotOn (s : State) (source bus : Nat) : Option (Nat × FadeSlot) :=
  s.mix.slots.find? fun f => f.2.source == source && f.2.bus == bus

/-- A fade slot filled or freed (R4). -/
def setFadeSlot (slot : Nat) (f : Option FadeSlot) (s : State) : State :=
  s.withMix { s.mix with slots := sparsePut s.mix.slots slot f }

/-- Whether an occupied slot carries a recall number in its owner (R4, second view). -/
def recallCarried (s : State) (number : Nat) : Bool :=
  s.mix.slots.any fun f =>
    match f.2.owner with
    | .recall n _ => n == number
    | _ => false

/-- The owner of a slot that has ended is told: a cue's action at once; a recall's requester when no slot carries its number
any more, unless the recall is still being taken (`taking`) (R12, R14). -/
def tellFadeOwner (taking : Nat) (owner : FadeOwner) (s : State) : State :=
  match owner with
  | .none => s
  | .cue o => reportComplete o s
  | .recall number requester =>
    if number ≠ taking ∧ recallCarried s number = false then tell requester s else s

/-- A slot ends: it is freed and unlinked, its owner is told, and the bus's governor sees it (R12, R121). -/
def endFadeSlot (taking slot : Nat) (f : FadeSlot) (s : State) : State :=
  refreshFreezeOfBus f.bus (tellFadeOwner taking f.owner (setFadeSlot slot none s))

/-- The occupied slot with the least remaining time, the lowest number among equals (R8). -/
def victimOf : Sparse FadeSlot → Option (Nat × FadeSlot)
  | [] => none
  | (k, f) :: rest =>
    match victimOf rest with
    | none => some (k, f)
    | some (j, g) =>
      if f.duration - f.elapsed ≤ g.duration - g.elapsed then some (k, f) else some (j, g)

/-- A slot filled from a request, its crosspoint's level at the floor-substituted start (R5, R7). -/
def fillFadeSlot (slot : Nat) (f : FadeSlot) (s : State) : State :=
  refreshFreezeOfBus f.bus (setLevel f.source f.bus (floored f.start) (setFadeSlot slot (some f) s))

/-- The victim of a steal completes at its target, and FADE_STEAL is raised (R8). -/
def stealFadeSlot (taking slot : Nat) (f : FadeSlot) (s : State) : State :=
  raiseEvent .fadeSteal 0 (bytesOf 1 slot ++ bytesOf 1 f.source ++ bytesOf 1 f.bus)
    (endFadeSlot taking slot f (setLevel f.source f.bus f.target s))

/-- A fade request that needs a slot, on a crosspoint without one: the lowest free slot, else a steal (R7, R8). -/
def placeFade (taking : Nat) (f : FadeSlot) (s : State) : State :=
  match sparseFree s.mix.slots 1 128 with
  | some k => fillFadeSlot k f s
  | none =>
    match victimOf s.mix.slots with
    | none => s
    | some (k, v) => fillFadeSlot k f (stealFadeSlot taking k v s)

/-- A fade request taken (R5, R6). `taking` is the recall being taken, 0 when there is none. -/
def fadeRequest (taking source bus : Nat) (target : Level) (time : Nat) (owner : FadeOwner) (s : State) : State :=
  let t := clampLevel target
  let d := min longest time
  let start := levelOf s source bus
  let existing := slotOn s source bus
  if d = 0 ∨ start = t then
    let s1 :=
      match existing with
      | none => s
      | some (k, f) => endFadeSlot taking k f s
    tellFadeOwner taking owner (setLevel source bus t s1)
  else
    let new : FadeSlot := { source, bus, start, target := t, duration := d, elapsed := 0, owner }
    match existing with
    | some (k, f) => tellFadeOwner taking f.owner (fillFadeSlot k new s)
    | none => placeFade taking new s

/-- An untimed set: any slot on the crosspoint ends and the level is set at once (R9). -/
def setUntimed (source bus : Nat) (x : Level) (s : State) : State :=
  match slotOn s source bus with
  | none => setLevel source bus (clampLevel x) s
  | some (k, f) => setLevel source bus (clampLevel x) (endFadeSlot 0 k f s)

/-! ### Snapshot recall (R14, R36) -/

/-- The recall number after `n`: 1, 2 ... 65535 and then 1 again (R14). -/
def numberAfter (n : Nat) : Nat := if n = 65535 then 1 else n + 1

/-- The next recall number from `n` on that no occupied slot carries; at most 128 can be carried (R14). -/
def freeRecall (s : State) : Nat → Nat → Nat
  | 0, n => n
  | fuel + 1, n => if recallCarried s n then freeRecall s fuel (numberAfter n) else n

/-- The entries of a snapshot taken one after the other in list order (R14). -/
def takeEntries (number time : Nat) (requester : Option Owner) : List SnapEntry → State → State
  | [], s => s
  | e :: rest, s =>
    takeEntries number time requester rest
      (fadeRequest number e.source e.bus e.level time (.recall number requester) s)

/-- The cue store's part of a recall of a present snapshot: the recall status (R36). -/
def recallStatus (id number : Nat) (s : State) : State :=
  s.withCst { s.cst with lastRecalled := some id, lastRecallNumber := number, recalledSinceRead := true }

/-- A snapshot recall with a time, asked for by an action (R14). -/
def recallSnapshot (id time : Nat) (requester : Owner) (s : State) : State :=
  let number := freeRecall s 129 s.mix.nextRecall
  let s1 := s.withMix { s.mix with nextRecall := numberAfter number }
  match sparseFind s.cst.snapshots id with
  | none => reportComplete requester s1
  | some entries =>
    let s2 := takeEntries number time (some requester) entries (recallStatus id number s1)
    if recallCarried s2 number then s2 else reportComplete requester s2

/-- Recall-busy as reported: a slot carries the last recall number; clear when the last recalled id is none (R37). -/
def recallBusy (s : State) : Bool := s.cst.lastRecalled.isSome && recallCarried s s.cst.lastRecallNumber

/-! ### Release and reset (R15, R25) -/

/-- A fade owner with one entry's slot released: a cue's owner becomes none, a recall keeps its number (R15). -/
def FadeOwner.release (slot : Nat) : FadeOwner → FadeOwner
  | .none => .none
  | .cue o => if o.slot = slot then .none else .cue o
  | .recall n requester =>
    match requester with
    | .none => .recall n .none
    | .some o => if o.slot = slot then .recall n .none else .recall n (some o)

/-- The fades and recalls of a running entry released (R15). -/
def releaseFades (slot : Nat) (s : State) : State :=
  s.withMix { s.mix with slots := s.mix.slots.map fun f => (f.1, { f.2 with owner := f.2.owner.release slot }) }

/-- The entries of a snapshot written to their crosspoints without fading (R25). -/
def applyEntries : List SnapEntry → State → State
  | [], s => s
  | e :: rest, s => applyEntries rest (setLevel e.source e.bus (clampLevel e.level) s)

/-- Snapshot 0 applied to the matrix (R25, R36). -/
def applyPreset (s : State) : State :=
  match sparseFind s.cst.snapshots 0 with
  | none => s
  | some entries => applyEntries entries s

/-- MIX's show reset: every slot freed without notice, crosspoints keeping their levels, then snapshot 0 (R15, R25). -/
def resetMatrix (s : State) : State :=
  refreshAllFreezes (applyPreset (s.withMix { s.mix with slots := [] }))

/-! ### The fade advance (R12, R13) -/

/-- A slot's advance by one millisecond: e increases, up to D (R12). -/
def FadeSlot.advance (f : FadeSlot) : FadeSlot := { f with elapsed := min f.duration (f.elapsed + 1) }

/-- The level a slot's crosspoint stands at (R12). -/
def FadeSlot.level (f : FadeSlot) : Level := fadeLevel f.start f.target f.duration f.elapsed

/-- The levels of some slots written to their crosspoints. -/
def writeFadeLevels : Sparse FadeSlot → State → State
  | [], s => s
  | (_, f) :: rest, s => writeFadeLevels rest (setLevel f.source f.bus f.level s)

/-- Every occupied slot advances, and its crosspoint takes its level (R12). -/
def advanceFades (s : State) : State :=
  let slots := s.mix.slots.map fun f => (f.1, f.2.advance)
  writeFadeLevels slots (s.withMix { s.mix with slots := slots })

/-- A fade ends when its elapsed time has reached its duration: the level is the target exactly, the slot is freed and its
owner told (R12). A slot that has not come to its end is left alone. -/
def endFade (slot : Nat) (s : State) : State :=
  match sparseFind s.mix.slots slot with
  | none => s
  | some f =>
    if f.duration ≤ f.elapsed then endFadeSlot 0 slot f (setLevel f.source f.bus f.target s) else s

/-- Every fade that has come to its end ends (R12). -/
def endFades (s : State) : State := forEach 1 128 endFade s

/-! ### Gain codes (R16, R17, R18) -/

/-- The bus adjustment: the master, and the main duck on M1-M8 or the governor's trim on FB1-FB12 (R16). -/
def busAdjustment (s : State) (bus : Nat) : Level :=
  masterOf s bus
    + (if bus ≤ 8 then s.hsu.duck.value else if bus ≤ 20 then (governorOf s (bus - 8)).trim else 0)

/-- The source of a crosspoint index. -/
def sourceOfIndex (i : Nat) : Nat := i / 25 + 1

/-- The bus of a crosspoint index. -/
def busOfIndex (i : Nat) : Nat := i % 25 + 1

/-- The gain code a crosspoint forms at a boundary (R17). -/
def formedCode (s : State) (i : Nat) : Nat :=
  crosspointCode (sparseRead off s.mix.levels i) (masterOf s (busOfIndex i)) (busAdjustment s (busOfIndex i))

/-- The codes of some crosspoints formed anew (R17, R18). -/
def formCodesOf (s : State) : List Nat → Sparse Glide → Sparse Glide
  | [], codes => codes
  | i :: rest, codes =>
    formCodesOf s rest (sparseWrite {} codes i ((sparseRead {} s.mix.codes i).form (formedCode s i)))

/-- MIX forms its gain codes: those of every crosspoint whose level or code is not at rest; all others stay 0 (R17, R18). -/
def formGainCodes (s : State) : State :=
  s.withMix
    { s.mix with codes := formCodesOf s (s.mix.levels.map (·.1) ++ s.mix.codes.map (·.1)) s.mix.codes }

/-- MIX's work at a millisecond boundary: outside hold the fades advance and, taken whole, end; then the gain codes are
formed (R12, R13, R17). -/
def matrixBoundary (taking : Taking) (s : State) : State :=
  let s1 := if holding s then s else advanceFades s
  formGainCodes (match taking with
    | .whole => if holding s then s1 else endFades s1
    | .split => s1)

end Sys2Proof.Machine
end

