-- ==== Sys2Proof/Machine/Players.lean ====
section
/-!
DEFINITION. The players: clip geometry, fetching, preload and reservations, PLAY and STOP, retrigger, the samples, the hold
time, pause under hold, underruns, directory changes and resets (R72 to R92).
-/

namespace Sys2Proof.Machine

/-! ### The geometry of a clip (R74, R94) -/

/-- Frames of a full block: 1024 mono or 512 stereo (R74). -/
def DirEntry.perBlock (e : DirEntry) : Nat := if e.channels = 2 then 512 else 1024

/-- Bytes of a clip's data (R94). -/
def DirEntry.bytes (e : DirEntry) : Nat := e.length * e.channels * 4

/-- Blocks of a clip (R94). -/
def DirEntry.blocks (e : DirEntry) : Nat := (e.bytes + 4095) / 4096

/-- The start threshold: 2 blocks, or every block of a shorter clip (R74). -/
def DirEntry.threshold (e : DirEntry) : Nat := min 2 e.blocks

/-- The loop end, the clip end without loop points (R74). -/
def DirEntry.loopEnd (e : DirEntry) : Nat := (e.loop.map (·.2)).getD e.length

/-- The loop start, frame 0 without loop points (R82). -/
def DirEntry.loopStart (e : DirEntry) : Nat := (e.loop.map (·.1)).getD 0

/-- The block that holds the loop end's last frame (R74). -/
def DirEntry.turnBlock (e : DirEntry) : Nat := (e.loopEnd - 1) / e.perBlock

/-- The block that holds the loop start (R74). -/
def DirEntry.loopBlock (e : DirEntry) : Nat := e.loopStart / e.perBlock

/-- Passes left after one turn back: endless stays endless, a finite count decreases (R74, R82). -/
def afterTurn (loops : Nat) : Nat := if loops = 0 then 0 else loops - 1

/-- Where the fetch points after block `k`: back to the loop start while passes remain, else on to the clip's end (R74). -/
def DirEntry.fetchAfter (e : DirEntry) (k loops : Nat) : Option Nat × Nat :=
  if k = e.turnBlock ∧ loops ≠ 1 then (some e.loopBlock, afterTurn loops)
  else (if k + 1 < e.blocks then some (k + 1) else none, loops)

/-- A sample in its four-byte container: 24 bits, signed; a silent block has no data and reads 0 (R94, R88). -/
def sampleIn (data : List Byte) (i : Nat) : Int :=
  (BitVec.ofNat 24 (unsignedOf ((data.drop (4 * i)).take 3))).toInt

/-- A frame of a block: channels A and B, the same sample twice for a mono clip (R81, R94). -/
def Block.frame (e : DirEntry) (b : Block) (f : Nat) : Int × Int :=
  let i := f - b.number * e.perBlock
  if e.channels = 2 then (sampleIn b.data (2 * i), sampleIn b.data (2 * i + 1))
  else (sampleIn b.data i, sampleIn b.data i)

/-! ### Position and buffer (R74, R82) -/

/-- The block at the head of the buffer, when it holds the position. -/
def Player.held (p : Player) : Option (DirEntry × Block) :=
  match p.copy, p.buffer with
  | some e, b :: _ => if b.number = p.position / e.perBlock then some (e, b) else none
  | _, _ => none

/-- The buffer once the position has left the block of frame `f`. -/
def leaveBlock (e : DirEntry) (f : Nat) : List Block → List Block
  | [] => []
  | b :: rest => if b.number = f / e.perBlock then rest else b :: rest

/-- The position after the frame just played: the loop start while passes remain at the loop end, else the next frame; a
block leaves the buffer when the position passes its last frame (R74, R82). -/
def Player.step (e : DirEntry) (p : Player) : Player :=
  if p.position + 1 = e.loopEnd ∧ p.loops ≠ 1 then
    { p with position := e.loopStart, loops := afterTurn p.loops, buffer := leaveBlock e p.position p.buffer }
  else if (p.position + 1) % e.perBlock = 0 ∨ p.position + 1 = e.length then
    { p with position := p.position + 1, buffer := leaveBlock e p.position p.buffer }
  else { p with position := p.position + 1 }

/-- The frames from the position onward in the play sequence, zero where not buffered or past the end: a tail (R80, R86). -/
def Player.upcoming : Nat → Player → List (Int × Int)
  | 0, _ => []
  | count + 1, p =>
    match p.copy with
    | none => (0, 0) :: Player.upcoming count p
    | some e =>
      if e.length ≤ p.position then (0, 0) :: Player.upcoming count p
      else
        (match p.held with
          | some (_, b) => b.frame e p.position
          | none => (0, 0)) :: Player.upcoming count (p.step e)

/-! ### Records put into a state -/

/-- A player emptied to IDLE; its counts and its code's glide stand (R73, R83, R85). R92's table does not name the loops
remaining and the fetch loops remaining of an idle player: both are 0 here, the model's choice (log entry 2). -/
def Player.idled (p : Player) : Player :=
  { underruns := p.underruns, lateStart := p.lateStart, code := p.code }

/-- A player that begins to load a clip from block 0 (R75, R78). -/
def Player.load (clip : Nat) (e : DirEntry) (p : Player) : Player :=
  { p.idled with
    state := .loading, clip := some clip, copy := some e, fetchNext := some 0, fetchLoops := 1
    pending := p.pending, reservation := p.reservation, holdTimer := p.holdTimer }

/-- Whether the start threshold of the clip held is buffered (R74). -/
def Player.buffered (p : Player) : Bool :=
  match p.copy with
  | none => false
  | some e => decide (e.threshold ≤ p.buffer.length)

/-- A player's record written and its transfer in flight, if any, no longer wanted. -/
def setPlayerAnew (n : Nat) (p : Player) (s : State) : State :=
  setPlayerRecord n p (discardTransfer (.player n) s)

/-- A player of the host or of a running cue made IDLE with its clip none (R85, R90). -/
def idlePlayer (n : Nat) (s : State) : State := setPlayerAnew n (playerOf s n).idled s

/-! ### Starting a play (R79) -/

/-- The envelope a play starts with: from OFF toward the play's level over the attack time, at the fade floor; with an attack
time of 0, or a level of OFF, it stands at its target at once (R79). -/
def startEnvelope (level : Level) (attack : Nat) : PlayerEnvelope :=
  { level := if attack = 0 ∨ level = off then level else floored off
    start := off, target := level, elapsed := 0, time := attack }

/-- Whether the block that holds the loop end is buffered (R74). -/
def Player.turnBuffered (e : DirEntry) (p : Player) : Bool := p.buffer.any fun b => b.number == e.turnBlock

/-- The fetch when a play with `loops` passes starts: the fetch loops remaining becomes the loop count, the blocks buffered
are kept, and where the block of the loop end is among them and the play turns there, the fetch points to the loop start's
block and owes the turn (R74, R79; log entry 12). -/
def Player.aim (e : DirEntry) (loops : Nat) (p : Player) : Player :=
  if loops ≠ 1 ∧ p.turnBuffered e = true then
    { p with fetchNext := some e.loopBlock, fetchLoops := loops, turnOwed := true }
  else { p with fetchLoops := loops }

/-- The blocks up to the first that holds the loop end, which are those next in the play sequence before a turn (R74). -/
def untilTurn (e : DirEntry) : List Block → List Block
  | [] => []
  | b :: rest => if b.number = e.turnBlock then [b] else b :: untilTurn e rest

/-- A turn that a start has left owed is taken: a finite count decreases, and blocks past the loop end, which the play
sequence does not reach before the turn, leave the buffer (R74; log entry 12). -/
def Player.takeTurn (e : DirEntry) (p : Player) : Player :=
  if p.turnOwed then
    { p with turnOwed := false, fetchLoops := afterTurn p.fetchLoops, buffer := untilTurn e p.buffer }
  else p

/-- A play starts from frame 0 (R79). -/
def startPlay (n : Nat) (play : Play) (s : State) : State :=
  let p := playerOf s n
  match p.copy with
  | none => s
  | some e =>
    let aimed := p.aim e play.loops
    let started := { aimed with
      state := if holding s then .pausedPlaying else .playing
      position := 0, loops := play.loops, owner := play.owner, pending := none
      env := startEnvelope play.level play.attack
      lateStart := min 65535 play.waited, holdTimer := none, episode := false, tail := [], ramp := none }
    if aimed.fetchNext = p.fetchNext then setPlayerRecord n started s else setPlayerAnew n started s

/-- A player whose pending start has its threshold buffered (R79). -/
def Player.startDue (p : Player) : Bool := p.state == .loading && p.pending.isSome && p.buffered

/-- A pending play that has its data starts; any other player is left alone (R79). -/
def playStart (n : Nat) (s : State) : State :=
  match (playerOf s n).pending with
  | none => s
  | some play => if (playerOf s n).startDue then startPlay n play s else s

/-! ### PLAY (R77, R78, R80) -/

/-- The tail a retrigger copies: the frames from the old position, or zeros after a finished pause tail (R80). A player PAUSED
since its start under hold, which has had no pause tail, gets zeros too: the model's choice (log entry 45). -/
def Player.retriggerTail (p : Player) : List (Int × Int) :=
  if (p.state = .pausedPlaying ∨ p.state = .pausedReleasing) ∧ p.tail = [] then List.replicate 480 (0, 0)
  else p.upcoming 480

/-- A play on a sounding player: the old play ends, its tail is copied, and the new play waits (R80). In RELEASING(RETRIGGER)
the record holds the waiting play as the pending start, its clip as the clip id, no clip copy, and 0 as loops remaining and
fetch loops remaining: the model's choice (log entry 42). -/
def retrigger (n : Nat) (play : Play) (s : State) : State :=
  let p := playerOf s n
  tell p.owner
    (setPlayerAnew n
      { p.idled with
        state := .releasingRetrigger, clip := some play.clip, env := p.env
        pending := some play, tail := p.retriggerTail } s)

/-- The owner of a play that waits, if any. -/
def Player.waitingOwner (p : Player) : Option Owner := p.pending.bind (·.owner)

/-- A play taken on a player whose clip is present, by the player's state (R78). -/
def playTaken (n : Nat) (play : Play) (e : DirEntry) (s : State) : State :=
  let p := { playerOf s n with holdTimer := none, reservation := none }
  let fresh := setPlayerAnew n { p.load play.clip e with pending := some play }
  match p.state with
  | .readyPreload | .readyHold =>
    if p.clip = some play.clip then
      if p.buffered then startPlay n play (setPlayerRecord n p s)
      else setPlayerRecord n { p with state := .loading, pending := some play } s
    else fresh s
  | .idle => fresh s
  | .loading =>
    tell p.waitingOwner
      (if p.clip = some play.clip then setPlayerRecord n { p with pending := some play } s else fresh s)
  | .releasingRetrigger =>
    tell p.waitingOwner (setPlayerRecord n { p with pending := some play, clip := some play.clip } s)
  | .playing | .releasingStop | .pausedPlaying | .pausedReleasing =>
    retrigger n play (setPlayerRecord n p s)

/-- A PLAY action of a running cue (R77): an absent clip leaves the player untouched and completes the play at once. -/
def playAction (n : Nat) (play : Play) (s : State) : State :=
  match clipEntry s play.clip with
  | none => tell play.owner (raisePlaybackFault n 0 play.clip 0 s)
  | some e => playTaken n play e s

/-! ### The end of a play (R83), of a tail (R80, R84) and of the hold time (R85) -/

/-- A clip held after a play or a tail: READY(HOLD) with the hold timer started, or IDLE for a hold time of 0 (R83). -/
def holdClip (n clip : Nat) (e : DirEntry) (s : State) : State :=
  if s.ply.holdTime = 0 then idlePlayer n s
  else
    setPlayerAnew n
      { ({ playerOf s n with pending := none, reservation := none }).load clip e with
        state := .readyHold, holdTimer := some s.ply.holdTime } s

/-- A play ends: its owner is told, and the player holds its clip or becomes IDLE (R83). READY(HOLD) fetches with the clip
copy of the play, also when the directory entry has changed since: the model's choice (log entry 41). -/
def finishPlay (n : Nat) (s : State) : State :=
  let p := playerOf s n
  tell p.owner
    (match p.clip, p.copy with
      | some clip, some e => holdClip n clip e s
      | _, _ => idlePlayer n s)

/-- A sounding player has come to its end: the last frame of the final pass is played, or the release is complete (R83). -/
def Player.endDue (p : Player) : Bool :=
  (p.state == .playing || p.state == .releasingStop)
    && ((match p.copy with
          | some e => decide (e.length ≤ p.position)
          | none => true)
      || (p.state == .releasingStop && p.env.level == off))

/-- A play that has come to its end ends; any other player is left alone (R83). -/
def playEnd (n : Nat) (s : State) : State :=
  if (playerOf s n).endDue then finishPlay n s else s

/-- A retrigger tail has ended: the waiting play's clip is loaded, or, after a stop, held (R80, R84). The envelope frozen at the
old play's level goes to OFF, with start, target, elapsed and time as at reset: the model's choice (log entry 42). -/
def retriggerTailEnd (n : Nat) (s : State) : State :=
  let p := playerOf s n
  if p.state = .releasingRetrigger ∧ p.tail = [] then
    match p.pending, p.clip with
    | some play, _ =>
      match clipEntry s play.clip with
      | some e => setPlayerAnew n (p.load play.clip e) s
      | none => tell play.owner (raisePlaybackFault n 0 play.clip 0 (idlePlayer n s))
    | none, some clip =>
      match clipEntry s clip with
      | some e => holdClip n clip e s
      | none => idlePlayer n s
    | none, none => idlePlayer n s
  else s

/-- A player hold timer that has run out makes the player IDLE; under hold it stands (R85). -/
def holdTimerExpiry (n : Nat) (s : State) : State :=
  if (playerOf s n).holdTimer = some 0 ∧ holding s = false then idlePlayer n s else s

/-! ### STOP (R84) -/

/-- A sounding player put into release: the envelope from its present level toward OFF; a release of 0, or from OFF,
completes at once (R84). -/
def releasePlayer (n release : Nat) (state : PlayerState) (s : State) : State :=
  let p := playerOf s n
  if release = 0 ∨ p.env.level = off then finishPlay n s
  else
    setPlayerRecord n
      { p with
        state := state
        env := { level := p.env.level, start := p.env.level, target := off, elapsed := 0, time := release } } s

/-- A stop taken by a player with a release time already in range (R84). -/
def stopPlayer (n release : Nat) (s : State) : State :=
  let p := playerOf s n
  match p.state with
  | .playing | .releasingStop => releasePlayer n release .releasingStop s
  | .pausedPlaying | .pausedReleasing => releasePlayer n release .pausedReleasing s
  | .releasingRetrigger => tell p.waitingOwner (setPlayerRecord n { p with pending := none } s)
  | .idle | .loading | .readyPreload | .readyHold => s

/-! ### Reservations and preload (R75, R76) -/

/-- A reservation released: READY(PRELOAD) becomes READY(HOLD), LOADING stays, and the hold timer starts (R76). -/
def Player.unreserve (holdTime : Nat) (p : Player) : Player :=
  { p with
    state := if p.state = .readyPreload then .readyHold else p.state
    reservation := none, holdTimer := some holdTime }

/-- A player reserved STANDBY for a cue that has left standby (R76). -/
def leaveStandbyOn (cue : CueNumber) (fired : Bool) (n : Nat) (s : State) : State :=
  let p := playerOf s n
  if p.reservation = some ⟨cue, false⟩ then
    setPlayerRecord n
      (if fired then { p with reservation := some ⟨cue, true⟩ } else p.unreserve s.ply.holdTime) s
  else s

/-- A cue has left standby, by firing or without (R76). -/
def leaveStandby (cue : Option CueNumber) (fired : Bool) (s : State) : State :=
  match cue with
  | none => s
  | some c => forEach 1 8 (leaveStandbyOn c fired) s

/-- A player whose FIRED reservation names a cue whose running entry has ended (R76). -/
def entryEndedOn (cue : CueNumber) (n : Nat) (s : State) : State :=
  let p := playerOf s n
  if p.reservation = some ⟨cue, true⟩ then setPlayerRecord n (p.unreserve s.ply.holdTime) s else s

/-- A cue's running entry has been removed or ended early (R76). -/
def entryEnded (cue : CueNumber) (s : State) : State := forEach 1 8 (entryEndedOn cue) s

/-- The preload of one player for a cue that has become standby, by the player's state (R75). -/
def preloadPlayer (cue : CueNumber) (n clip : Nat) (e : DirEntry) (s : State) : State :=
  let p := playerOf s n
  let mine : Option Reservation := some ⟨cue, false⟩
  let fresh := setPlayerAnew n { ({ p with holdTimer := none }).load clip e with reservation := mine }
  let mayTake := p.reservation = none ∨ p.reservation = some ⟨cue, false⟩ ∨ p.reservation = some ⟨cue, true⟩
  match p.state with
  | .idle => fresh s
  | .loading =>
    if p.pending.isSome then s
    else if p.clip = some clip then
      (if mayTake then setPlayerRecord n { p with reservation := mine, holdTimer := none } s else s)
    else if p.reservation = none then fresh s
    else s
  | .readyHold =>
    if p.clip = some clip then
      setPlayerRecord n
        { p with
          reservation := mine, holdTimer := none
          state := if p.buffered then .readyPreload else .loading } s
    else fresh s
  | _ => s

/-- The preload over a cue's actions in action-index order; `named` are the players its earlier PLAYs named (R75). -/
def preloadActions (cue : CueNumber) (named : List Nat) : List Action → State → State
  | [], s => s
  | a :: rest, s =>
    match a.work with
    | .play n clip _ _ _ =>
      if named.contains n then preloadActions cue named rest s
      else
        preloadActions cue (n :: named) rest
          (match clipEntry s clip with
            | none => s
            | some e => preloadPlayer cue n clip e s)
    | _ => preloadActions cue named rest s

/-- A cue has become standby (R75). -/
def becomeStandby (number : Option CueNumber) (s : State) : State :=
  match number.bind (cueNamed s) with
  | none => s
  | some c => preloadActions c.number [] c.actions s

/-- SEQ's report of a change of standby: the departure of the old cue is taken before the new one (R49, R76). -/
def standbyChanged (left : Option CueNumber) (fired : Bool) (new : Option CueNumber) (s : State) : State :=
  becomeStandby new (leaveStandby left fired s)

/-! ### Owners, directory changes and resets (R89, R90, R92) -/

/-- A play's owner released, when it names an entry's slot (R89). -/
def releaseOwner (slot : Nat) (o : Option Owner) : Option Owner :=
  match o with
  | none => none
  | some w => if w.slot = slot then none else some w

/-- The plays of a running entry on one player released (R89). -/
def releasePlaysOn (slot n : Nat) (s : State) : State :=
  let p := playerOf s n
  setPlayerRecord n
    { p with
      owner := releaseOwner slot p.owner
      pending := p.pending.map fun play => { play with owner := releaseOwner slot play.owner } } s

/-- The plays of a running entry released: they go on unowned (R89). -/
def releasePlays (slot : Nat) (s : State) : State := forEach 1 8 (releasePlaysOn slot) s

/-- A player acts on a change of its clip's directory entry while it is LOADING or READY (R90). -/
def directoryChangedOn (n : Nat) (s : State) : State :=
  let p := playerOf s n
  match p.clip with
  | none => s
  | some clip =>
    if p.state = .loading ∨ p.state = .readyPreload ∨ p.state = .readyHold then
      match p.pending, p.reservation, clipEntry s clip with
      | some _, _, some e => setPlayerAnew n (p.load clip e) s
      | some play, _, none => raisePlaybackFault n 0 clip 0 (tell play.owner (idlePlayer n s))
      | none, some _, some e => setPlayerAnew n (p.load clip e) s
      | none, _, _ => idlePlayer n s
    else s

/-- Every LOADING or READY player that holds the clip acts on the change of its entry (R90). -/
def directoryChanged (clip : Nat) (s : State) : State :=
  forEach 1 8 (fun n t => if (playerOf t n).clip = some clip then directoryChangedOn n t else t) s

/-- PLY's show reset of one player: IDLE at once, its counts kept (R92). -/
def resetPlayer (n : Nat) (s : State) : State :=
  setPlayerAnew n { (playerOf s n).idled with code := {} } s

/-- PLY's show reset (R92). -/
def resetPlayers (s : State) : State := forEach 1 8 resetPlayer s

/-! ### Blocks arriving (R74, R87, R88) -/

/-- A block that a player wanted joins its buffer, unless it lies behind the position of an underrun that lasts; the fetch
moves on; a loading player may become READY (R74, R75, R76, R87). -/
def Player.join (e : DirEntry) (b : Block) (p : Player) : Player :=
  let here := p.position / e.perBlock
  if p.episode ∧ b.number ≠ here then { p with fetchNext := some here, fetchLoops := p.loops }
  else
    let next := e.fetchAfter b.number (if p.episode then p.loops else p.fetchLoops)
    let q := { p with
      buffer := p.buffer ++ [b], fetchNext := next.1, fetchLoops := next.2, episode := false }
    if q.state = .loading ∧ q.buffered = true ∧ q.pending = none then
      { q with state := if q.reservation.isSome then .readyPreload else .readyHold }
    else q

/-- A block that a player wanted arrives, a turn owed being taken first (R74). A pending play's start is left due. -/
def Player.receive (e : DirEntry) (b : Block) (p : Player) : Player := (p.takeTurn e).join e b

/-- A block read for a player has ended well, with its bytes, or as a memory error, placed as silence, counted and raised
(R74, R88). -/
def playerBlock (n k : Nat) (data : Option (List Byte)) (s : State) : State :=
  let p := playerOf s n
  match p.copy with
  | none => s
  | some e =>
    match data with
    | some bytes => setPlayerRecord n (p.receive e ⟨k, bytes⟩) s
    | none =>
      raisePlaybackFault n 1 (p.clip.getD 0) k
        (setPlayerRecord n
          (({ p with underruns := countUp 65535 p.underruns }).receive e ⟨k, []⟩) s)

/-- Whether a player wants a block: its state fetches, its buffer has room and its fetch points to a block (R74). -/
def Player.wantsBlock (p : Player) : Option Nat :=
  match p.state with
  | .loading | .readyPreload | .readyHold | .playing | .releasingStop | .pausedPlaying | .pausedReleasing =>
    if p.buffer.length < 4 ∧ p.copy.isSome then p.fetchNext else none
  | .idle | .releasingRetrigger => none

/-! ### The samples (R81, R82, R86, R87) -/

/-- An output sample: clip sample × envelope code × ramp factor q/480, rounded and limited (R81). -/
def shaped (code : Int) (q : Nat) (c : Int) : Int :=
  sat24 (roundHalfAway (c * code * q) (480 * 2 ^ 22))

/-- Both channels of a frame shaped. -/
def shapedFrame (code : Int) (q : Nat) (f : Int × Int) : Int × Int := (shaped code q f.1, shaped code q f.2)

/-- The next sample of a resume ramp, absent after the 480th (R86). -/
def nextRamp (r : Option Nat) : Option Nat := r.bind fun n => if n + 1 < 480 then some (n + 1) else none

/-- A tail's sample: the next tail frame under the ramp (479 - n)/480, zero when the tail is out (R80, R81, R86). -/
def Player.tailSample (code : Int) (p : Player) : (Int × Int) × Player :=
  match p.tail with
  | [] => ((0, 0), p)
  | f :: rest => (shapedFrame code rest.length f, { p with tail := rest })

/-- The start of an underrun episode: counted, and the fetch pointed at the block that holds the position (R87). -/
def Player.startEpisode (e : DirEntry) (p : Player) : Player :=
  { p with
    underruns := countUp 65535 p.underruns, episode := true, buffer := []
    fetchNext := some (p.position / e.perBlock), fetchLoops := p.loops }

/-- A player whose play owes a turn takes it before the play's first sample (R74, R79; log entry 12). -/
def turnPlayer (n : Nat) (s : State) : State :=
  let p := playerOf s n
  match p.copy with
  | none => s
  | some e => if p.turnOwed then setPlayerRecord n (p.takeTurn e) s else s

/-- A player's output samples in a sample period, and its record afterwards (R81, R82, R86, R87). -/
def soundPlayer (n : Nat) (s : State) : (Int × Int) × State :=
  let p := playerOf s n
  let code := p.code.at s.mix.sample
  match p.state with
  | .playing | .releasingStop =>
    match p.copy with
    | none => ((0, 0), s)
    | some e =>
      if e.length ≤ p.position then ((0, 0), s)
      else
        match p.held with
        | some (_, b) =>
          let q :=
            match p.ramp with
            | none => 480
            | some r => r + 1
          (shapedFrame code q (b.frame e p.position),
            setPlayerRecord n { p.step e with ramp := nextRamp p.ramp } s)
        | none =>
          let after (r : Player) : Player := { r.step e with ramp := nextRamp p.ramp }
          if p.episode then ((0, 0), setPlayerRecord n (after p) s)
          else
            ((0, 0), raiseUnderrun n (p.clip.getD 0) p.position
              (setPlayerRecord n (after (p.startEpisode e)) s))
  | .releasingRetrigger | .pausedPlaying | .pausedReleasing =>
    let out := p.tailSample code
    (out.1, setPlayerRecord n out.2 s)
  | .idle | .loading | .readyPreload | .readyHold => ((0, 0), s)

/-- One sample period of player n (R74, R81, R82, R86, R87). -/
def samplePlayer (n : Nat) (s : State) : (Int × Int) × State := soundPlayer n (turnPlayer n s)

/-! ### The millisecond boundary (R79, R81, R85, R86) -/

/-- The envelope's advance (R81). One from OFF to OFF counts its time and stays OFF, where the start of the play has set it
(R79; log entry 39). -/
def PlayerEnvelope.advance (v : PlayerEnvelope) : PlayerEnvelope :=
  if v.elapsed < v.time then
    { v with
      elapsed := v.elapsed + 1
      level := if v.start = v.target then v.target else fadeLevel v.start v.target v.time (v.elapsed + 1) }
  else v

/-- A player's pause or resume at a boundary (R86). The 480 frames of a pause tail are those buffered at that boundary; a block
that arrives later is not heard in it (log entry 32). -/
def Player.followHold (held : Bool) (p : Player) : Player :=
  if held then
    match p.state with
    | .playing => { p with state := .pausedPlaying, tail := p.upcoming 480, ramp := none }
    | .releasingStop => { p with state := .pausedReleasing, tail := p.upcoming 480, ramp := none }
    | _ => p
  else
    match p.state with
    | .pausedPlaying => { p with state := .playing, tail := [], ramp := some 0 }
    | .pausedReleasing => { p with state := .releasingStop, tail := [], ramp := some 0 }
    | _ => p

/-- A player's envelope and hold timer outside hold (R81, R85). -/
def Player.tick (p : Player) : Player :=
  { p with
    env := if p.state = .playing ∨ p.state = .releasingStop then p.env.advance else p.env
    holdTimer := p.holdTimer.map (· - 1) }

/-- The boundary counted against a play that waits for its data (R79). -/
def Player.countWait (p : Player) : Player :=
  { p with pending := p.pending.map fun play => { play with waited := play.waited + 1 } }

/-- One player's work at a boundary (R79, R81, R85, R86). -/
def playerBoundary (n : Nat) (s : State) : State :=
  let p := ((playerOf s n).countWait).followHold (holding s)
  setPlayerRecord n (if holding s then p else p.tick) s

/-- What has fallen due on one player is taken: the end of a play or of a tail, the hold timer (R83, R80, R85). -/
def settlePlayer (n : Nat) (s : State) : State :=
  holdTimerExpiry n (retriggerTailEnd n (playEnd n s))

/-- PLY's work at a millisecond boundary. -/
def playersBoundary (taking : Taking) (s : State) : State :=
  let s1 := forEach 1 8 playerBoundary s
  match taking with
  | .whole => forEach 1 8 settlePlayer s1
  | .split => s1

/-- One player's envelope code formed (R81). -/
def formEnvelopeCode (n : Nat) (s : State) : State :=
  let p := playerOf s n
  setPlayerRecord n { p with code := p.code.form (levelCode p.env.level) } s

/-- The envelope codes formed at a boundary (R81). -/
def formEnvelopeCodes (s : State) : State := forEach 1 8 formEnvelopeCode s

end Sys2Proof.Machine
end

