-- ==== Sys2Proof/Machine/Relay.lean ====
section
/-!
DEFINITION. The relay and paging unit: zones and their outputs, the page queue, the active page, preemption, TALK pages and
the call voice (R129 to R150).
-/

namespace Sys2Proof.Machine

/-! ### Zones (R129, R131) -/

/-- RPU's page queue replaced. -/
def setQueue (q : List Page) (s : State) : State := s.withRpu { s.rpu with queue := q }

/-- RPU's active page replaced. -/
def setActive (a : Option ActivePage) (s : State) : State := s.withRpu { s.rpu with active := a }

/-- An attack started on a zone of the active page, its in-page flag taken, and its paged flag when the page's audio is
routed (R131, R138). -/
def zoneJoins (routed : Bool) (n : Nat) (s : State) : State :=
  let z := zoneOf s n
  setZoneRecord n
    { z with inPage := true, paged := routed, duck := z.duck.start z.depth s.rpu.settings.attack } s

/-- A zone that leaves the active page: a release when it is enabled, cleared when it is disabled (R129, R138, R140). -/
def zoneLeaves (n : Nat) (s : State) : State :=
  let z := zoneOf s n
  setZoneRecord n
    { z with
      inPage := false, paged := false
      duck := if z.enabled then z.duck.start 0 s.rpu.settings.release else {} } s

/-- A zone of a preempted page that the new page's target selects too: it loses its paged flag and keeps its duck (R141). -/
def zoneHandedOver (n : Nat) (s : State) : State :=
  setZoneRecord n { zoneOf s n with paged := false } s

/-- A zone takes its paged flag (R139). -/
def zonePaged (n : Nat) (s : State) : State := setZoneRecord n { zoneOf s n with paged := true } s

/-- `f` done for each zone of a list in turn. -/
def eachZone (f : Nat → State → State) : List Nat → State → State
  | [], s => s
  | n :: rest, s => eachZone f rest (f n s)

/-! ### The call voice (R144) -/

/-- RPU's call voice replaced. -/
def setVoice (v : Voice) (s : State) : State := s.withRpu { s.rpu with voice := v }

/-- The call voice becomes IDLE, its buffer emptied and a transfer for it no longer wanted (R144). Its page number, clip id,
copy, position and fetch go back to their reset values (log entry 2). -/
def idleVoice (s : State) : State :=
  setVoice { underruns := s.rpu.voice.underruns, lateStart := s.rpu.voice.lateStart } (discardTransfer .voice s)

/-- The call voice begins to load a clip for a page (R144). -/
def loadVoice (page clip : Nat) (e : DirEntry) (s : State) : State :=
  setVoice
    { underruns := s.rpu.voice.underruns, lateStart := s.rpu.voice.lateStart
      state := .loading, page, clip, copy := some e, fetchNext := some 0 }
    (discardTransfer .voice s)

/-- Whether the call voice can start: the attack is complete and the start threshold is buffered (R139, R144). -/
def voiceStartDue (s : State) : Bool :=
  s.rpu.voice.state == .loading
    && (match s.rpu.active with
        | some a => a.attack == none
        | none => false)
    && (match s.rpu.voice.copy with
        | some e => decide (e.threshold ≤ s.rpu.voice.buffer.length)
        | none => false)

/-- The call voice starts when it can, and records its late-start (R144). -/
def callVoiceStart (s : State) : State :=
  if voiceStartDue s then
    setVoice { s.rpu.voice with
      state := .playing, position := 0, lateStart := min 65535 s.rpu.voice.waited } s
  else s

/-! ### Pages (R133, R136) -/

/-- Two pages are equal in class, source and target (R133, R135). -/
def Page.same (a b : Page) : Bool :=
  a.cls == b.cls && a.source == b.source && a.mask == b.mask && a.zones == b.zones

/-- A page is of a strictly higher class than another (R133). -/
def Page.above (a b : Page) : Bool := decide (a.cls.number < b.cls.number)

/-- A new page placed after the last waiting page of its own or a higher class (R136). -/
def placeNew (p : Page) : List Page → List Page
  | [] => [p]
  | q :: rest => if p.above q then p :: q :: rest else q :: placeNew p rest

/-- A requeued page placed before every other page of its class (R136). -/
def placeReplayed (p : Page) : List Page → List Page
  | [] => [p]
  | q :: rest => if q.above p then q :: placeReplayed p rest else p :: q :: rest

/-- PAGE_DROPPED: number (0 when none was given), class, source, clip id and reason: ABSENT 0, EMPTY_TARGET 1, FULL 2,
DISPLACED 3 (R135). -/
def raiseDropped (p : Page) (number reason : Nat) (s : State) : State :=
  raiseEvent .pageDropped p.origin.number
    (bytesOf 2 number ++ bytesOf 1 p.cls.number ++ bytesOf 1 p.source.number
      ++ bytesOf 2 p.source.clipOrZero ++ bytesOf 1 reason) s

/-- Whether a page's clip, if it has one, is absent from the directory (R135, R138). -/
def clipAbsent (s : State) : PageSource → Bool
  | .live => false
  | .clip id => (clipEntry s id).isNone

/-- A page's audio routed at its start: a LIVE page's zones are paged at once; a CLIP page's attack timer starts and the
call voice loads its clip (R138, R139). -/
def routePage (p : Page) (zones : List Nat) (s : State) : State :=
  match p.source with
  | .live => eachZone (zoneJoins true) zones (setActive (some ⟨p, zones, none⟩) s)
  | .clip id =>
    let time := s.rpu.settings.attack
    let started := eachZone (zoneJoins (time == 0)) zones
      (setActive (some ⟨p, zones, if time = 0 then none else some time⟩) s)
    match clipEntry s id with
    | none => started
    | some e => loadVoice p.number id e started

/-- A page starts, or is dropped when its clip is absent or its zone set empty; the answer says whether it started (R138). -/
def startPage (p : Page) (s : State) : Bool × State :=
  let zones := zonesSelected s p.mask p.zones
  if clipAbsent s p.source then (false, raiseDropped p p.number 0 s)
  else if zones.isEmpty then (false, raiseDropped p p.number 1 s)
  else (true, routePage p zones s)

/-- The first page of a queue that starts becomes active, the ones before it dropped (R138, R140). -/
def startFrom : List Page → State → State
  | [], s => setQueue [] (setActive none s)
  | p :: rest, s =>
    let r := startPage p (setQueue rest (setActive none s))
    if r.1 then r.2 else startFrom rest r.2

/-- The active page ends with release, and `then_` is what follows it (R140). -/
def endActiveThen (then_ : State → State) (s : State) : State :=
  match s.rpu.active with
  | none => s
  | some a => then_ (eachZone zoneLeaves a.zoneSet (setActive none (idleVoice s)))

/-- The active page ends with release, and the head of the queue starts (R140). -/
def endActive (s : State) : State := endActiveThen (fun t => startFrom t.rpu.queue t) s

/-- The active page's zone set resolved again from its target: zones that join and leave act as R138 states. -/
def resolveAgain (s : State) : State :=
  match s.rpu.active with
  | none => s
  | some a =>
    let zones := zonesSelected s a.page.mask a.page.zones
    let joined := zones.filter fun n => !a.zoneSet.contains n
    let left := a.zoneSet.filter fun n => !zones.contains n
    eachZone zoneLeaves left (eachZone (zoneJoins (a.attack == none)) joined
      (setActive (some { a with zoneSet := zones }) s))

/-! ### Taking a request (R135 to R137, R141, R142) -/

/-- What a page request came to (R148). -/
inductive PageOutcome where
  | active (number : Nat)
  | queued (number position : Nat)
  | merged (number : Nat)
  | united (number : Nat)
  | full
  | dropped
  deriving DecidableEq, Repr

/-- Whether a number is held by a waiting or active page (R133). -/
def pageHeld (s : State) (number : Nat) : Bool :=
  s.rpu.queue.any (fun p => p.number == number)
    || (match s.rpu.active with
        | some a => a.page.number == number
        | none => false)

/-- The next page number from `n` on that no page holds; at most 9 can be held (R133). -/
def freePageNumber (s : State) : Nat → Nat → Nat
  | 0, n => n
  | fuel + 1, n => if pageHeld s n then freePageNumber s fuel (numberAfter n) else n

/-- A page given its number, and the count moved on (R133). -/
def numbered (p : Page) (s : State) : Page × State :=
  let number := freePageNumber s 10 s.rpu.nextNumber
  ({ p with number := number }, s.withRpu { s.rpu with nextNumber := numberAfter number })

/-- The queue when a page is to be placed and 8 wait: the last page is displaced by a strictly higher class, else there is
no place (R137). -/
def makePlace (p : Page) (s : State) : Option State :=
  if s.rpu.queue.length < 8 then some s
  else
    match s.rpu.queue.getLast? with
    | none => some s
    | some last =>
      if p.above last then
        some (raiseDropped last last.number 3 (setQueue s.rpu.queue.dropLast s))
      else none

/-- The fate of a preempted page: requeued when it is a CLIP page not yet replayed, equal to no waiting page and placed;
dropped otherwise. PAGE_PREEMPTED says which: REQUEUED 0, DROPPED 1 (R141). -/
def preemptedFate (old : Page) (newNumber : Nat) (s : State) : State :=
  let again := { old with replayed := true }
  let requeued : Option State :=
    if old.source = .live ∨ old.replayed = true ∨ s.rpu.queue.any (fun q => q.same old) = true then none
    else (makePlace again s).map fun t => setQueue (placeReplayed again t.rpu.queue) t
  raiseEvent .pagePreempted 0
    (bytesOf 2 old.number ++ bytesOf 1 old.cls.number ++ bytesOf 2 newNumber
      ++ bytesOf 1 (if requeued.isSome then 0 else 1)) (requeued.getD s)

/-- A higher-class request preempts the active page (R141). -/
def preempt (a : ActivePage) (p : Page) (s : State) : State :=
  let n := numbered p s
  let shared := zonesSelected s p.mask p.zones
  let s1 := eachZone zoneHandedOver (a.zoneSet.filter fun z => shared.contains z)
    (eachZone zoneLeaves (a.zoneSet.filter fun z => !shared.contains z)
      (setActive none (idleVoice n.2)))
  preemptedFate a.page n.1.number (startPage n.1 s1).2

/-- A zone set united with another, rising (R142). -/
def uniteZones (a b : List Nat) : List Nat :=
  (List.range' 1 24).filter fun n => a.contains n || b.contains n

/-- A TALK request's target and holder added to the TALK page (R142). -/
def Page.unite (p r : Page) : Page :=
  { p with
    mask := p.mask ||| r.mask, zones := uniteZones p.zones r.zones
    heldByLine := p.heldByLine || r.heldByLine, heldByLink := p.heldByLink || r.heldByLink }

/-- A TALK request united with the TALK page that waits or is active, if there is one (R142). -/
def uniteTalk (r : Page) (s : State) : Option (State × PageOutcome) :=
  match s.rpu.active with
  | some a =>
    if a.page.cls = .talk then
      some (resolveAgain (setActive (some { a with page := a.page.unite r }) s), .united a.page.number)
    else
      (s.rpu.queue.find? fun p => p.cls == .talk).map fun p =>
        (setQueue (s.rpu.queue.map fun q => if q.cls = .talk then q.unite r else q) s, .united p.number)
  | none => none

/-- The place of a page in the queue, from 1. -/
def positionOf (number : Nat) (q : List Page) : Nat := q.findIdx (fun p => p.number == number) + 1

/-- A new page placed in the queue, or dropped FULL (R136, R137). -/
def queuePage (r : Page) (s : State) : State × PageOutcome :=
  match makePlace r s with
  | none => (raiseDropped r 0 2 s, .full)
  | some t =>
    let n := numbered r t
    let q := placeNew n.1 n.2.rpu.queue
    (setQueue q n.2, .queued n.1.number (positionOf n.1.number q))

/-- A page request decided, past the clip, target and union steps (R135, steps 4 to 7). -/
def placePage (r : Page) (s : State) : State × PageOutcome :=
  match s.rpu.queue.find? fun p => p.same r with
  | some p => (s, .merged p.number)
  | none =>
    match s.rpu.active with
    | none =>
      let n := numbered r s
      ((startPage n.1 n.2).2, .active n.1.number)
    | some a =>
      if r.above a.page then (preempt a r s, .active (numbered r s).1.number)
      else queuePage r s

/-- A page request decided (R135). -/
def requestPage (r : Page) (s : State) : State × PageOutcome :=
  if clipAbsent s r.source then (raiseDropped r 0 0 s, .dropped)
  else if (zonesSelected s r.mask r.zones).isEmpty then (raiseDropped r 0 1 s, .dropped)
  else if r.cls = .talk then
    match uniteTalk r s with
    | some done => done
    | none => placePage r s
  else placePage r s

/-- A request as a page record without a number (R133, R134). -/
def pageOf (cls : PageClass) (source : PageSource) (target : Nat × List Nat) (origin : PageOrigin) : Page where
  number := 0
  cls := cls
  source := source
  mask := target.1
  zones := target.2
  origin := origin
  heldByLine := decide (cls = .talk ∧ origin = .line)
  heldByLink := decide (cls = .talk ∧ origin = .link)
  replayed := false

/-- A CALL action's page (R134). -/
def callAction (clip : Nat) (target : Target) (s : State) : State :=
  (requestPage (pageOf .call (.clip clip) (targetSpread target) .action) s).1

/-- A call timer's page (R134, R169). -/
def timerCall (clip : Nat) (target : Target) (s : State) : State :=
  (requestPage (pageOf .timed (.clip clip) (targetSpread target) .timer) s).1

/-- An assertion of the TALK line (R134, R142). -/
def talkAsserted (s : State) : State :=
  (requestPage (pageOf .talk .live (s.rpu.settings.talkGroups, []) .line) s).1

/-- A release of the TALK line removes the holder LINE; a page with no holder left ends or is withdrawn (R142). -/
def talkReleased (s : State) : State :=
  let drop (p : Page) : Page := { p with heldByLine := false }
  match s.rpu.active with
  | none => s
  | some a =>
    if a.page.cls = .talk then
      if a.page.heldByLine then
        if a.page.heldByLink then setActive (some { a with page := drop a.page }) s else endActive s
      else s
    else
      setQueue
        ((s.rpu.queue.filter fun p => !(p.cls == .talk && p.heldByLine && !p.heldByLink)).map fun p =>
          if p.cls = .talk then drop p else p) s

/-- The STOP request at the activation of show stop (R143). -/
def stopPageBegins (s : State) : State :=
  (requestPage (pageOf .stop .live (255, []) .stop) s).1

/-- The STOP page ends with show stop, if it is active (R143). -/
def stopPageEnds (s : State) : State :=
  match s.rpu.active with
  | some a => if a.page.cls = .stop then endActive s else s
  | none => s

/-- A page named by its number taken out: the active page ends, a waiting page leaves the queue (R148). -/
def cancelPage (number : Nat) (s : State) : State :=
  match s.rpu.active with
  | some a =>
    if a.page.number = number then endActive s
    else setQueue (s.rpu.queue.filter fun p => p.number != number) s
  | none => s

/-- RPU's show reset: the queue emptied, the active page ended with release, the call voice IDLE (R150). -/
def resetRelay (s : State) : State :=
  idleVoice (endActiveThen (fun t => t) (setQueue [] s))

/-! ### The call voice's data and faults (R144, R145) -/

/-- The attack timer has run out: the attack is complete and the zone set is paged (R139). -/
def attackTimerExpiry (s : State) : State :=
  match s.rpu.active with
  | some a =>
    if a.attack = some 0 then
      callVoiceStart (eachZone zonePaged a.zoneSet (setActive (some { a with attack := none }) s))
    else s
  | none => s

/-- The call voice has played its clip's last frame: the CLIP page ends (R139, R140). -/
def voiceEndDue (s : State) : Bool :=
  s.rpu.voice.state == .playing
    && (match s.rpu.voice.copy with
        | some e => decide (e.length ≤ s.rpu.voice.position)
        | none => true)

/-- The CLIP page whose clip has ended ends; otherwise nothing happens (R139, R140). -/
def clipPageEnd (s : State) : State := if voiceEndDue s then endActive s else s

/-- The call voice's fetch after block `k`: it runs to the last block and then points to none (R144). -/
def voiceFetchAfter (e : DirEntry) (k : Nat) : Option Nat := if k + 1 < e.blocks then some (k + 1) else none

/-- A block joins the call voice's buffer, unless it lies behind the position of an underrun that lasts (R144, R145). -/
def Voice.receive (e : DirEntry) (b : Block) (v : Voice) : Voice :=
  let here := v.position / e.perBlock
  if v.episode ∧ b.number ≠ here then { v with fetchNext := some here }
  else { v with buffer := v.buffer ++ [b], fetchNext := voiceFetchAfter e b.number, episode := false }

/-- A block read for the call voice has ended, with its bytes or as a memory error (R144, R145). -/
def voiceBlock (k : Nat) (data : Option (List Byte)) (s : State) : State :=
  let v := s.rpu.voice
  match v.copy with
  | none => s
  | some e =>
    match data with
    | some bytes => setVoice (v.receive e ⟨k, bytes⟩) s
    | none =>
      raisePlaybackFault 9 1 v.clip k
        (setVoice (({ v with underruns := countUp 65535 v.underruns }).receive e ⟨k, []⟩) s)

/-- The block the call voice wants, if any (R144). -/
def Voice.wantsBlock (v : Voice) : Option Nat :=
  if v.state ≠ .idle ∧ v.buffer.length < 4 then v.fetchNext else none

/-- The call voice acts on a change of its clip's directory entry while it is LOADING (R145). -/
def voiceDirectoryChanged (s : State) : State :=
  if s.rpu.voice.state = .loading then
    match clipEntry s s.rpu.voice.clip with
    | some e => setVoice { s.rpu.voice with copy := some e, position := 0, fetchNext := some 0, buffer := [],
                                            episode := false } (discardTransfer .voice s)
    | none =>
      match s.rpu.active with
      | none => idleVoice s
      | some a => endActive (raiseDropped a.page a.page.number 0 s)
  else s

/-- One sample period of the call voice: its output sample, and its record afterwards (R144, R145). -/
def sampleVoice (s : State) : Int × State :=
  let v := s.rpu.voice
  match v.state, v.copy with
  | .playing, some e =>
    if e.length ≤ v.position then (0, s)
    else
      let next := v.position + 1
      let leaves := next % e.perBlock = 0 ∨ next = e.length
      match v.buffer with
      | b :: rest =>
        if b.number = v.position / e.perBlock then
          let f := b.frame e v.position
          (if e.channels = 2 then roundHalfAway (f.1 + f.2) 2 else f.1,
            setVoice { v with position := next, buffer := if leaves then rest else b :: rest } s)
        else (0, voiceUnderrun e next v s)
      | [] => (0, voiceUnderrun e next v s)
  | _, _ => (0, s)
where
  /-- A frame that is not buffered: zero is played, and an episode starts unless one lasts (R145). -/
  voiceUnderrun (e : DirEntry) (next : Nat) (v : Voice) (s : State) : State :=
    if v.episode then setVoice { v with position := next } s
    else
      raiseUnderrun 9 v.clip v.position
        (setVoice
          { v with
            position := next, episode := true, buffer := []
            underruns := countUp 65535 v.underruns
            fetchNext := some (v.position / e.perBlock) } s)

/-! ### Settings (R146, R147) -/

/-- The stored fields of a zone replaced, with what a new depth does to the duck (R146). -/
def storeZone (n : Nat) (b : ZoneBody) (s : State) : State :=
  let z := zoneOf s n
  let depth := clampDepth b.depth
  let z1 := { z with
    enabled := b.enabled == 1, group := b.group
    relay := clampLevel b.relay, page := clampLevel b.page, depth := depth }
  let duck :=
    if depth = z.depth then z.duck
    else if z.inPage then (z.duck.limit depth).start depth s.rpu.settings.attack
    else if z.duck.run.isSome then (z.duck.limit depth).start 0 s.rpu.settings.release
    else z.duck.limit depth
  setZoneRecord n
    (if z1.enabled ∧ z.enabled then { z1 with duck := duck }
      else { z1 with duck := {}, inPage := false, paged := false, gr := {}, gp := {} }) s

/-- A taken SET ZONE, or a zone record of a show load: the fields stored, and the active page's zone set resolved again
when the enabled flag or the group changed (R146). Where the depth changes too, its rule acts first, with the in-page flag
as it was: the model's choice (log entry 44). -/
def applyZone (n : Nat) (b : ZoneBody) (s : State) : State :=
  let z := zoneOf s n
  let s1 := storeZone n b s
  if (zoneOf s1 n).enabled = z.enabled ∧ b.group = z.group then s1 else resolveAgain s1

/-- The body that carries a zone's stored fields (R105). -/
def Zone.body (z : Zone) : ZoneBody where
  enabled := flagNumber z.enabled
  group := z.group
  relay := z.relay
  page := z.page
  depth := z.depth

/-- The settings SET PAGING stores (R147). -/
def pagingSettingsOf (b : PagingBody) : PagingSettings where
  talkSource := b.talkSource
  talkLevel := clampLevel b.talkLevel
  talkGroups := b.talkGroups
  attack := min 1000 b.attack
  release := min 5000 b.release

/-- The body that carries the paging settings (R105). -/
def PagingSettings.body (g : PagingSettings) : PagingBody where
  talkSource := g.talkSource
  talkLevel := g.talkLevel
  talkGroups := g.talkGroups
  attack := g.attack
  release := g.release

/-- The paging settings replaced (R147). -/
def applyPaging (b : PagingBody) (s : State) : State :=
  s.withRpu { s.rpu with settings := pagingSettingsOf b }

/-! ### The millisecond boundary and the samples (R130, R131, R132, R139) -/

/-- A zone's duck envelope advances (R131). -/
def advanceZone (n : Nat) (s : State) : State :=
  setZoneRecord n { zoneOf s n with duck := (zoneOf s n).duck.advance } s

/-- A boundary counted against the call voice once the attack is complete and its data is awaited (R144). -/
def countVoiceWait (s : State) : State :=
  match s.rpu.active with
  | none => s
  | some a =>
    if a.attack = none ∧ s.rpu.voice.state = VoiceState.loading then
      setVoice { s.rpu.voice with waited := s.rpu.voice.waited + 1 } s
    else s

/-- The active page's attack timer counts down (R139). -/
def countAttack (s : State) : State :=
  match s.rpu.active with
  | none => s
  | some a => setActive (some { a with attack := a.attack.map (· - 1) }) s

/-- The zone envelopes advance, and so does the attack timer; the call voice's wait is counted (R131, R139, R144). -/
def relayAdvance (s : State) : State := countAttack (countVoiceWait (forEach 1 24 advanceZone s))

/-- One zone's relay and page codes formed; a disabled zone's stay 0 (R130). -/
def formZoneCode (n : Nat) (s : State) : State :=
  let z := zoneOf s n
  if z.enabled then
    setZoneRecord n
      { z with
        gr := z.gr.form (relayCode z.relay z.duck.value)
        gp := z.gp.form (if z.paged then levelCode z.page else 0) } s
  else s

/-- The zone codes and the talk gain code formed at a boundary (R130, R132). -/
def formZoneCodes (s : State) : State :=
  let s1 := forEach 1 24 formZoneCode s
  s1.withRpu { s1.rpu with talk := s1.rpu.talk.form (levelCode s1.rpu.settings.talkLevel) }

/-- The page-bus sample: the talk input under the talk gain for a LIVE page, the call voice's sample for a CLIP page (R132). -/
def pageBusSample (inputs : List Int) (voice : Int) (s : State) : Int :=
  match s.rpu.active with
  | none => 0
  | some a =>
    match a.page.source with
    | .live =>
      sat24 (roundHalfAway (inputs.getD (s.rpu.settings.talkSource - 1) 0 * s.rpu.talk.at s.mix.sample) (2 ^ 22))
    | .clip _ => voice

/-- One zone's output sample, and its record with a clip counted (R130). -/
def sampleZone (r p : Int) (n : Nat) (s : State) : Int × State :=
  let z := zoneOf s n
  if z.enabled then
    let sum := roundHalfAway (r * z.gr.at s.mix.sample + p * z.gp.at s.mix.sample) (2 ^ 22)
    (sat24 sum, if sat24 sum = sum then s else setZoneRecord n { z with clips := countUp 65535 z.clips } s)
  else (0, s)

end Sys2Proof.Machine
end

