-- ==== Sys2Proof/Machine/Timing.lean ====
section
/-!
DEFINITION. The timing unit: the show clock, the sample-clock selector, the debouncers' counts, call timers, marks, the GO
record, the standby lamp and TMU's show reset (R162 to R175).
-/

namespace Sys2Proof.Machine

/-! ### The show clock and the selector (R162 to R164) -/

/-- The show clock and the GO record's interval count advance by one millisecond (R162, R172). -/
def advanceClock (s : State) : State :=
  s.withTmu { s.tmu with clock := s.tmu.clock + 1, interval := countUp 4294967295 s.tmu.interval }

/-- Whether word-clock edges pace the sample periods: LOCKED with the word clock present, no loss being due (R163). -/
def State.pacedByWordClock (s : State) : Bool := s.tmu.locked && s.tmu.present && decide (s.tmu.absence < 48)

/-- CLOCK: LOST 0, RESTORED 1 (R163). -/
def raiseClock (detail : Nat) (s : State) : State := raiseEvent .clock 0 (bytesOf 1 detail) s

/-- Presence breaks: an expected edge is missing or invalid, and the internal reference supplies the periods (R163). -/
def presenceBroken (s : State) : State :=
  s.withTmu { s.tmu with present := false, presence := 0, missed := true }

/-- The absence count has reached 1 ms, 48 sample periods, in LOCKED: FREE, and CLOCK LOST is raised (R163). -/
def clockLost (s : State) : State :=
  if s.tmu.locked = true ∧ 48 ≤ s.tmu.absence then raiseClock 0 (s.withTmu { s.tmu with locked := false }) else s

/-- A valid edge after the presence count has reached 100 ms, 4800 sample periods, in FREE: LOCKED, and CLOCK RESTORED is
raised (R163). -/
def clockRestored (s : State) : State :=
  if s.tmu.locked = false ∧ 4800 ≤ s.tmu.presence then
    raiseClock 1 (s.withTmu { s.tmu with locked := true, absence := 0 })
  else s

/-- A valid edge counted: presence runs on from the edge at which the word clock became present, and absence ends, but for a
loss that a split run has left due (R163; log entry 5). -/
def countValid (s : State) : State :=
  s.withTmu { s.tmu with
    present := true
    presence := if s.tmu.present then countUp 4800 s.tmu.presence else 0
    absence := if s.tmu.locked = true ∧ 48 ≤ s.tmu.absence then s.tmu.absence else 0 }

/-- A sample period without a valid edge counted: presence is broken and absence runs on (R163). -/
def countMissing (s : State) : State :=
  let s1 := presenceBroken s
  s1.withTmu { s1.tmu with absence := s1.tmu.absence + 1 }

/-- The selector's work in a sample period: taken whole, a valid edge that finds presence at 100 ms makes it LOCKED, and an
absence that has reached 1 ms makes it FREE (R163). -/
def selectorPeriod (edge : Bool) (taking : Taking) (s : State) : State :=
  match taking with
  | .split => if edge then countValid s else countMissing s
  | .whole => clockLost (if edge then countValid (clockRestored s) else countMissing s)

/-- The first judgement after reset, at the first boundary and without an event: LOCKED when the word clock was present
throughout, FREE with presence count 0 otherwise (R164; log entry 5). -/
def judgeClock (s : State) : State :=
  if s.tmu.judged then s
  else
    let throughout := s.tmu.present && !s.tmu.missed
    s.withTmu { s.tmu with
      judged := true, locked := throughout, presence := if throughout then s.tmu.presence else 0 }

/-! ### The debouncers' counts (R166) -/

/-- The first sample after a reset or a change of active level decides the starting state (R165, R166). -/
def Line.decideStart (active : Bool) (l : Line) : Line :=
  { l with state := if active then .blocked else .released, count := 0 }

/-- One sample against the state a debouncer stands in: `away` says that the sample is of the other level (R166). -/
def Line.countSample (away : Bool) (l : Line) : Line :=
  { l with count := if away then min l.debounce (l.count + 1) else 0 }

/-- A debouncer's sample of its line; what the count brings is taken by LINE_ASSERTION, LINE_RELEASE and
DEBOUNCE_UNBLOCK (R166). -/
def Line.sample (high : Bool) (l : Line) : Line :=
  let active := high == l.activeHigh
  match l.state with
  | .undecided => l.decideStart active
  | .released => l.countSample active
  | .asserted | .blocked => l.countSample !active

/-- A line's debouncer samples its input. -/
def sampleLine (n : Nat) (high : Bool) (s : State) : State :=
  setLineRecord n ((lineOf s n).sample high) s

/-- The four debouncers sample (R166). -/
def sampleLines (i : BoundaryInputs) (s : State) : State :=
  sampleLine 4 i.talkHigh (sampleLine 3 i.stopHigh (sampleLine 2 i.holdHigh (sampleLine 1 i.goHigh s)))

/-- A debouncer in a given state whose count has reached the debounce (R166). -/
def lineDue (state : LineState) (n : Nat) (s : State) : Bool :=
  (lineOf s n).state == state && decide ((lineOf s n).debounce ≤ (lineOf s n).count)

/-- A debouncer put into a state, count 0 (R166). -/
def enterLineState (state : LineState) (n : Nat) (s : State) : State :=
  setLineRecord n { lineOf s n with state := state, count := 0 } s

/-- A BLOCKED line seen released for the debounce becomes RELEASED, with nothing delivered (R166). -/
def debounceUnblock (n : Nat) (s : State) : State :=
  if lineDue .blocked n s then enterLineState .released n s else s

/-! ### Call timers (R168 to R170) -/

/-- A call timer fires: FIRED with its late flag, TIMER_FIRED, and the page of a CALL payload (R169). -/
def fireTimer (n : Nat) (late : Bool) (s : State) : State :=
  let t := timerOf s n
  let s1 := raiseEvent .timerFired n (bytesOf 1 (flagNumber late))
    (setTimerRecord n { t with state := .fired, late := late } s)
  match t.payload with
  | .call clip target => timerCall clip target s1
  | .eventOnly | .invalid _ _ _ => s1

/-- A call timer armed for a show-clock value: ARMED when it lies 1 to 2^31 - 1 ms ahead, else fired at once, late (R168). -/
def armTimer (n : Nat) (target : BitVec 32) (payload : Payload) (s : State) : State :=
  let s1 := setTimerRecord n { state := .armed, target := target, payload := payload, late := false } s
  let d := (target - s.tmu.clock).toNat
  if 1 ≤ d ∧ d ≤ 2147483647 then s1 else fireTimer n true s1

/-- A time relative to now, modulo 2^32 (R168). -/
def fromNow (time : Nat) (s : State) : BitVec 32 := s.tmu.clock + BitVec.ofNat 32 time

/-- An ARMED timer whose target equals the show clock fires; any other timer is left alone (R169). -/
def callTimerFire (n : Nat) (s : State) : State :=
  if (timerOf s n).state = .armed ∧ (timerOf s n).target = s.tmu.clock then fireTimer n false s else s

/-- Every call timer that is due fires (R169). -/
def fireTimers (s : State) : State := forEach 1 8 callTimerFire s

/-- A timer disarmed, its target, payload and late flag kept (R170, R175). -/
def disarmTimer (n : Nat) (s : State) : State :=
  setTimerRecord n { timerOf s n with state := .disarmed } s

/-! ### Marks and the GO record (R171, R172) -/

/-- A MARK action of a cue (R171). -/
def markAction (id : Nat) (cue : CueNumber) (s : State) : State :=
  s.withTmu { s.tmu with marks := sparsePut s.tmu.marks id (some ⟨s.tmu.clock, cue⟩) }

/-- A GO record entry appended for an accepted GO or FIRE; the ring keeps the latest 32 (R172). -/
def appendGo (cue : CueNumber) (origin : Origin) (s : State) : State :=
  let r := s.tmu.goRecord
  let e : GoEntry := { cue, time := s.tmu.clock, origin, interval := if r = [] then 0 else s.tmu.interval }
  s.withTmu { s.tmu with goRecord := (if 32 ≤ r.length then r.drop (r.length - 31) else r) ++ [e], interval := 0 }

/-! ### The standby lamp (R173) -/

/-- Whether a player reserved STANDBY for a cue is LOADING (R173). -/
def standbyLoads (s : State) (cue : CueNumber) : Bool :=
  (List.range' 1 8).any fun n =>
    (playerOf s n).reservation == some ⟨cue, false⟩ && (playerOf s n).state == .loading

/-- A lamp that flashes from now on, or goes on flashing (R173). -/
def Lamp.flashOn : Lamp → Lamp
  | .flashing c => .flashing (c + 1)
  | .off | .steady => .flashing 0

/-- The lamp's state decided at a boundary (R173). -/
def lampDecided (s : State) : Lamp :=
  match standbyNumber s with
  | none => .off
  | some cue =>
    if holding s then .off
    else if standbyLoads s cue then s.tmu.lamp.flashOn
    else .steady

/-- TMU decides the lamp (R173). -/
def decideLamp (s : State) : State := s.withTmu { s.tmu with lamp := lampDecided s }

/-- Whether STBY_LAMP is lit (R173). -/
def Lamp.lit : Lamp → Bool
  | .off => false
  | .flashing c => decide (c % 500 < 250)
  | .steady => true

/-! ### The show reset (R175) -/

/-- TMU's show reset: timers DISARMED, marks invalid, GO record emptied (R175). -/
def resetTiming (s : State) : State :=
  let s1 := forEach 1 8 disarmTimer s
  s1.withTmu { s1.tmu with marks := [], goRecord := [], interval := 0 }

end Sys2Proof.Machine
end

