-- ==== Sys2Proof/Machine/HoldStop.lean ====
section
/-!
DEFINITION. The hold and stop unit: line states, published values, activation and deactivation of show stop, the main duck,
the announcement injection and the stop settings (R151 to R161).
-/

namespace Sys2Proof.Machine

/-- HSU's state changed. -/
def onHsu (f : Hsu → Hsu) (s : State) : State := s.withHsu (f s.hsu)

/-! ### Line states and request flags (R151, R152) -/

/-- The number of the HOLD line. -/
abbrev holdLine : Nat := 2

/-- The number of the STOP line. -/
abbrev stopLine : Nat := 3

/-- The state HSU keeps of the HOLD line, or of the STOP line (R151). -/
def lineStateOf (n : Nat) (h : Hsu) : Bool := if n = holdLine then h.holdLine else h.stopLine

/-- The line state of the HOLD or the STOP line written (R151). -/
def setLineState (n : Nat) (v : Bool) (s : State) : State :=
  if n = holdLine then onHsu (fun h => { h with holdLine := v }) s
  else onHsu (fun h => { h with stopLine := v }) s

/-- An assertion of the HOLD or the STOP line: set in LEVEL mode, reversed in TOGGLE mode (R151). -/
def holdStopAsserted (n : Nat) (s : State) : State :=
  setLineState n (if (lineOf s n).toggle then !lineStateOf n s.hsu else true) s

/-- A release of the HOLD or the STOP line: cleared in LEVEL mode, nothing in TOGGLE mode (R151). -/
def holdStopReleased (n : Nat) (s : State) : State :=
  if (lineOf s n).toggle then s else setLineState n false s

/-- The mode of the HOLD or the STOP line has changed: to LEVEL, the line state follows the debouncer (R151). -/
def holdStopModeChanged (n : Nat) (s : State) : State :=
  if (lineOf s n).toggle then s else setLineState n ((lineOf s n).state == .asserted) s

/-! ### The published values (R153) -/

/-- Show stop as HSU forms it from its flags (R153). -/
def Hsu.stopFormed (h : Hsu) : Bool := h.stopLine || h.stopRequest

/-- Hold as HSU forms it from its flags (R153). -/
def Hsu.holdFormed (h : Hsu) : Bool := h.holdLine || h.holdRequest || h.stopFormed

/-! ### The announcement injection (R157) -/

/-- The injection code of a bus under some stop settings (R157). -/
def injectionCode (g : StopSettings) (bus : Nat) : Nat :=
  if bus ≤ 8 then (if inMask g.announceBuses bus then levelCode g.announceLevel else 0)
  else if bus ≤ 20 then levelCode g.foldbackLevel
  else 0

/-- A ramp toward a code started on a bus, from its code in force; `entering` says whether it is a ramp in (R157). -/
def rampTo (entering : Bool) (bus code : Nat) (s : State) : State :=
  let i := injectionOf s bus
  setInjection bus { i with ramp := some { start := i.code, target := code, sample := 0, entering } } s

/-- The ramp in at the activation: announce buses and foldback buses (R154, R157). -/
def rampIn (bus : Nat) (s : State) : State :=
  if bus ≤ 8 ∧ inMask s.hsu.settings.announceBuses bus = false then s
  else rampTo true bus (injectionCode s.hsu.settings bus) s

/-- Whether an injection is in or ramps in (R155; log entry 37). -/
def Injection.inOrComing (i : Injection) : Bool :=
  match i.ramp with
  | none => i.code != 0
  | some r => r.entering

/-- The ramp out at the deactivation (R155, R157). -/
def rampOut (bus : Nat) (s : State) : State :=
  if (injectionOf s bus).inOrComing then rampTo false bus 0 s else s

/-- The code in force on a ramp's sample (R157). -/
def Ramp.code (r : Ramp) : Nat :=
  if 479 ≤ r.sample then r.target
  else ((r.start : Int) + (((r.target : Int) - r.start) * (r.sample + 1)).tdiv 480).toNat

/-- One sample period of an injection: the code in force becomes the ramp's, and the ramp moves on (R157). -/
def Injection.step (i : Injection) : Injection :=
  match i.ramp with
  | none => i
  | some r =>
    { code := r.code, ramp := if 479 ≤ r.sample then none else some { r with sample := r.sample + 1 } }

/-- One sample period of a bus's injection. -/
def stepInjection (bus : Nat) (s : State) : State := setInjection bus (injectionOf s bus).step s

/-! ### Activation and deactivation (R154, R155) -/

/-- HSU's duck changed. -/
def onDuck (f : Duck → Duck) (s : State) : State := onHsu (fun h => { h with duck := f h.duck }) s

/-- SHOW_STOP: OFF 0 or ON 1, and the flags then set (R154, R155). -/
def raiseShowStop (on : Bool) (s : State) : State :=
  let h := s.hsu
  raiseEvent .showStop 0
    (bytesOf 1 (flagNumber on)
      ++ bytesOf 1 (flagNumber h.stopLine + 2 * flagNumber h.stopRequest
          + 4 * flagNumber h.holdLine + 8 * flagNumber h.holdRequest)) s

/-- What HSU does at the boundary at which show stop becomes active (R154). -/
def activateStop (s : State) : State :=
  let s1 := onDuck (fun d => d.start s.hsu.settings.depth s.hsu.settings.attack) s
  raiseShowStop true (forEach 1 20 rampIn (stopPageBegins s1))

/-- What HSU does at the boundary at which show stop ceases to be active (R155). -/
def deactivateStop (s : State) : State :=
  let s1 := onDuck (fun d => d.start 0 s.hsu.settings.release) (stopPageEnds s)
  raiseShowStop false (forEach 1 20 rampOut s1)

/-- HSU forms its two values, publishes them and acts on a change of show stop (R153). -/
def publishHold (s : State) : State :=
  let was := s.hsu.stopActive
  let now := s.hsu.stopFormed
  let s1 := onHsu (fun h => { h with holdEffective := h.holdFormed, stopActive := h.stopFormed }) s
  if now = true ∧ was = false then activateStop s1
  else if now = false ∧ was = true then deactivateStop s1
  else s1

/-- The main duck's advance at a millisecond boundary (R156). -/
def advanceDuck (s : State) : State := onDuck (·.advance) s

/-! ### Stop settings and resets (R158, R159, R161) -/

/-- The settings SET STOP stores, each brought into its range (R158, R159). -/
def stopSettingsOf (b : StopBody) : StopSettings where
  depth := clampDepth b.depth
  attack := min 5000 b.attack
  release := min 5000 b.release
  announceBuses := b.announceBuses
  announceLevel := clampLevel b.announceLevel
  foldbackLevel := clampLevel b.foldbackLevel

/-- The body that carries the stop settings (R105, R160). -/
def StopSettings.body (g : StopSettings) : StopBody where
  depth := g.depth
  attack := g.attack
  release := g.release
  announceBuses := g.announceBuses
  announceLevel := g.announceLevel
  foldbackLevel := g.foldbackLevel

/-- What a change of the depth does to the main duck, the new settings in force (R159). -/
def duckForDepth (active : Bool) (g : StopSettings) (d : Duck) : Duck :=
  let limited := d.limit g.depth
  if active then limited.start g.depth g.attack
  else if d.run.isSome then limited.start 0 g.release
  else limited

/-- A bus whose injection code a change of settings has changed starts a ramp toward the new code (R157, R159). -/
def rampForChange (old : StopSettings) (bus : Nat) (s : State) : State :=
  if injectionCode old bus = injectionCode s.hsu.settings bus then s
  else rampTo (injectionCode s.hsu.settings bus != 0) bus (injectionCode s.hsu.settings bus) s

/-- The stop settings replaced, each change taking its effect (R159). -/
def applyStop (b : StopBody) (s : State) : State :=
  let old := s.hsu.settings
  let new := stopSettingsOf b
  let s1 := onHsu (fun h => { h with settings := new }) s
  let s2 := if new.depth = old.depth then s1 else onDuck (duckForDepth s.hsu.stopActive new) s1
  if s.hsu.stopActive then forEach 1 20 (rampForChange old) s2 else s2

/-- HSU's show reset: the hold request flag cleared (R161). -/
def resetHold (s : State) : State := onHsu (fun h => { h with holdRequest := false }) s

end Sys2Proof.Machine
end

