-- ==== Sys2Proof/Machine/Sequencer.lean ====
section
/-!
DEFINITION. The sequencer: the decision of a GO and a FIRE, the running-cue table with its actions, waits and follows, LOCATE,
the adjustment of standby to edits, and SEQ's resets (R46 to R71).
-/

namespace Sys2Proof.Machine

/-! ### Standby (R47 to R49) -/

/-- Standby moved to an index or NONE and the change reported to the players: which cue left, whether by firing (R49). -/
def moveStandby (new : Option Nat) (fired : Bool) (s : State) : State :=
  let left := standbyNumber s
  let s1 := s.withSeq { s.seq with standby := new }
  standbyChanged left fired (standbyNumber s1) s1

/-- Standby's index moved with the list, the cue being the same; nothing is reported (R48). -/
def shiftStandby (new : Option Nat) (s : State) : State := s.withSeq { s.seq with standby := new }

/-- The cue store has inserted a cue at an index (R48). -/
def standbyAfterInsert (index : Nat) (s : State) : State :=
  match s.seq.standby with
  | none => s
  | some i => if index ≤ i then shiftStandby (some (i + 1)) s else s

/-- The cue store has deleted the cue at an index, `left` being its number; the list is already without it (R48). -/
def standbyAfterDelete (index : Nat) (left : CueNumber) (s : State) : State :=
  match s.seq.standby with
  | none => s
  | some i =>
    if index < i then shiftStandby (some (i - 1)) s
    else if i = index then
      let s1 := shiftStandby (nextEligible s (index - 1)) s
      standbyChanged (some left) false (standbyNumber s1) s1
    else s

/-- The cue store has replaced the cue at an index (R48, R49). -/
def standbyAfterReplace (index : Nat) (s : State) : State :=
  if s.seq.standby = some index then
    match cueAt s index with
    | none => s
    | some c => if eligible s c then moveStandby (some index) false s else moveStandby (nextEligible s index) false s
  else s

/-! ### GO_REFUSED and the checks under hold (R50, R56) -/

/-- What a GO or a FIRE comes to (R50, R53, R55, R56). -/
inductive GoOutcome where
  | accepted (cue : CueNumber)
  | passed (cue : CueNumber)
  | held
  | stop
  | lockout
  | endOfList
  | full
  | notFound
  | cut
  deriving DecidableEq, Repr

/-- The number of a refusal's reason in GO_REFUSED: HELD, STOP, LOCKOUT, END, FULL (R50, R187). -/
def GoOutcome.reason : GoOutcome → Nat
  | .stop => 1
  | .lockout => 2
  | .endOfList => 3
  | .full => 4
  | .held | .accepted _ | .passed _ | .notFound | .cut => 0

/-- What a decision gives: the outcome, the slot of the entry it created, and the state. -/
structure GoResult where
  outcome : GoOutcome
  slot : Option Nat
  state : State

/-- A refused GO: GO_REFUSED with source LINE 1, LINK 2 or AUTO 3, and nothing else (R50). -/
def refuseGo (origin : Origin) (outcome : GoOutcome) (s : State) : GoResult where
  outcome := outcome
  slot := none
  state := raiseEvent .goRefused (origin.number + 1) (bytesOf 1 outcome.reason ++ cueBytes (standbyNumber s)) s

/-- HELD, or STOP when show stop is active (R50, R56). -/
def heldOutcome (s : State) : GoOutcome := if s.hsu.stopActive then .stop else .held

/-- Whether an origin is an operator's: LINE or LINK (R51). -/
def Origin.operator : Origin → Bool
  | .line | .link => true
  | .auto | .fire => false

/-- The lockout started by an operator's GO (R51). -/
def startLockout (origin : Origin) (s : State) : State :=
  if origin.operator then s.withSeq { s.seq with lockout := s.seq.lockoutSetting } else s

/-- END_OF_LIST raised with a cue when standby is NONE (R53, R55). -/
def raiseEndOfList (cue : CueNumber) (s : State) : State :=
  if s.seq.standby = none then raiseEvent .endOfList 0 (cueBytes (some cue)) s else s

/-! ### Entries (R54, R55, R59) -/

/-- The entry a cue starts with (R55, R59). -/
def Entry.initial (cue : Cue) (origin : Origin) (target : Option CueNumber) : Entry where
  cue := cue
  origin := origin
  phase := .prewait
  prewait := cue.prewait
  elapsed := 0
  states := List.replicate cue.actions.length .unfired
  postwait := if cue.follow = .none then .absent else .waiting
  followTarget := target
  outcome := if cue.follow = .none then .none else .pending

/-- An entry ended early (R54). -/
def endEarly (slot : Nat) (s : State) : State :=
  match sparseFind s.seq.entries slot with
  | none => s
  | some e => entryEnded e.cue.number (setEntry slot none (releasePlays slot (releaseFades slot s)))

/-- The running entry of a cue about to be fired again, if any, ended early (R50, R56). -/
def endEarlyOf (cue : CueNumber) (s : State) : State :=
  match entryRunning s cue with
  | none => s
  | some slot => endEarly slot s

/-- The lowest-numbered free slot of the running-cue table (R55). -/
def freeEntry (s : State) : Option Nat := sparseFree s.seq.entries 1 16

/-- Whether an action is tracked: a FADE, a SNAP, or a PLAY with a loop count above 0 (R61). -/
def tracked : Work → Bool
  | .fade _ _ _ _ => true
  | .snap _ _ => true
  | .play _ _ loops _ _ => loops != 0
  | .stop _ _ | .call _ _ _ | .govern _ _ | .timer _ _ _ | .mark _ | .unknown _ => false

/-- An action handed to its owning block (R61). -/
def handOver (owner : Owner) (cue : CueNumber) (w : Work) (s : State) : State :=
  match w with
  | .fade source bus level time => fadeRequest 0 source bus level time (.cue owner) s
  | .snap id time => recallSnapshot id time owner s
  | .play n clip loops level attack =>
    playAction n
      { clip, loops, level, attack, owner := if loops = 0 then none else some owner, waited := 0 } s
  | .stop n release => stopPlayer n release s
  | .call clip target _ => callAction clip target s
  | .govern n level => governAction n level s
  | .timer n delay payload => armTimer n (fromNow delay s) payload s
  | .mark id => markAction id cue s
  | .unknown _ => s

/-- Phase DONE once every action of an ACTIVE entry has fired (R59). -/
def Entry.phased (e : Entry) : Entry :=
  if e.phase = .active ∧ e.states.contains .unfired = false then { e with phase := .done } else e

/-- Action `index` of an entry fires (R61). -/
def fireAction (slot index : Nat) (s : State) : State :=
  match sparseFind s.seq.entries slot with
  | none => s
  | some e =>
    match e.cue.actions[index - 1]? with
    | none => s
    | some a =>
      let state : ActionState := if tracked a.work then .outstanding else .complete
      handOver ⟨slot, index⟩ e.cue.number a.work
        (setEntry slot (some ({ e with states := e.states.set (index - 1) state }).phased) s)

/-- Among the actions from `index` on, the UNFIRED one with the least offset at or below `elapsed`, the first among equals, as
offset and index (R60). -/
def dueAction (elapsed : Nat) : List Action → List ActionState → Nat → Option (Nat × Nat)
  | a :: actions, st :: states, index =>
    let later := dueAction elapsed actions states (index + 1)
    if st = .unfired ∧ a.offset ≤ elapsed then
      match later with
      | none => some (a.offset, index)
      | some l => if a.offset ≤ l.1 then some (a.offset, index) else some l
    else later
  | _, _, _ => none

/-- The index of the action of an entry that fires next, if one is due (R60). -/
def Entry.nextDue (e : Entry) : Option Nat :=
  if e.phase = .active then (dueAction e.elapsed e.cue.actions e.states 1).map (·.2) else none

/-- The due actions of an entry fired one after the other; an entry has at most 16 (R60). -/
def fireDue (slot : Nat) : Nat → State → State
  | 0, s => s
  | fuel + 1, s =>
    match (sparseFind s.seq.entries slot).bind Entry.nextDue with
    | none => s
    | some index => fireDue slot fuel (fireAction slot index s)

/-- The postwait a cue has when its prewait ends: CONTINUE starts it (R63). -/
def postwaitAtActive (e : Entry) : Postwait :=
  if e.cue.follow = .continue_ then .running e.cue.postwait else e.postwait

/-- An entry whose prewait has ended, before its actions of offset 0 fire (R60, R63). -/
def Entry.activated (e : Entry) : Entry :=
  ({ e with phase := .active, elapsed := 0, postwait := postwaitAtActive e }).phased

/-- The prewait of an entry ends: ACTIVE, elapsed 0, the actions with offset 0 fire, a CONTINUE postwait starts (R60, R63). -/
def activate (slot : Nat) (s : State) : State :=
  match sparseFind s.seq.entries slot with
  | none => s
  | some e => fireDue slot 16 (setEntry slot (some e.activated) s)

/-- Whether an entry's prewait has run out (R60). -/
def Entry.prewaitDue (e : Entry) : Bool := e.phase == .prewait && e.prewait == 0

/-- The prewait of an entry ends when it has run out and hold is not effective (R60, R65). -/
def prewaitEnd (slot : Nat) (s : State) : State :=
  match sparseFind s.seq.entries slot with
  | none => s
  | some e => if e.prewaitDue = true ∧ holding s = false then activate slot s else s

/-- The running-cue entry of an accepted GO or FIRE, its GO record entry and CUE_FIRED (R55, steps 1 to 3). -/
def createEntry (slot : Nat) (cue : Cue) (origin : Origin) (target : Option CueNumber) (s : State) : State :=
  raiseEvent .cueFired 0 (cueBytes (some cue.number) ++ bytesOf 1 origin.number)
    (appendGo cue.number origin (setEntry slot (some (Entry.initial cue origin target)) s))

/-- A GO accepted on the standby cue at an index (R55). -/
def acceptGo (origin : Origin) (slot index : Nat) (cue : Cue) (s : State) : GoResult :=
  let next := nextEligible s index
  let target := next.bind fun i => (cueAt s i).map fun c => c.number
  let s1 := startLockout origin (createEntry slot cue origin target s)
  let s2 := raiseEndOfList cue.number (moveStandby next true s1)
  { outcome := .accepted cue.number, slot := some slot, state := prewaitEnd slot s2 }

/-- A GO passes the cut standby cue at an index (R53). -/
def passCut (origin : Origin) (index : Nat) (cue : Cue) (s : State) : GoResult :=
  let s1 := moveStandby (nextEligible s index) false s
  let s2 := raiseEvent .cutPassed 0 (cueBytes (some cue.number)) s1
  { outcome := .passed cue.number, slot := none, state := startLockout origin (raiseEndOfList cue.number s2) }

/-- A GO decided by the ordered checks of R50. -/
def decideGo (origin : Origin) (s : State) : GoResult :=
  if holding s then refuseGo origin (heldOutcome s) s
  else if origin.operator = true ∧ 0 < s.seq.lockout then refuseGo origin .lockout s
  else
    match s.seq.standby with
    | none => refuseGo origin .endOfList s
    | some index =>
      match cueAt s index with
      | none => refuseGo origin .endOfList s
      | some cue =>
        if cue.cut then passCut origin index cue s
        else
          let s1 := endEarlyOf cue.number s
          match freeEntry s1 with
          | none => refuseGo origin .full s1
          | some slot => acceptGo origin slot index cue s1

/-- A FIRE decided by the ordered checks of R56, the number being in range. -/
def decideFire (number : CueNumber) (s : State) : GoResult :=
  if holding s then ⟨heldOutcome s, none, s⟩
  else
    match cueNamed s number with
    | none => ⟨.notFound, none, s⟩
    | some cue =>
      if cue.cut then ⟨.cut, none, s⟩
      else
        let s1 := endEarlyOf number s
        match freeEntry s1 with
        | none => ⟨.full, none, s1⟩
        | some slot =>
          ⟨.accepted number, some slot, prewaitEnd slot (createEntry slot cue .fire (standbyNumber s1) s1)⟩

/-! ### Follows and removals (R63, R64) -/

/-- An entry in DONE with nothing outstanding (R63, R64). -/
def Entry.finished (e : Entry) : Bool := e.phase == .done && e.outstanding == 0

/-- The number of a follow outcome in CUE_DONE: NONE, FIRED, PASSED, REFUSED, DROPPED (R187). -/
def FollowOutcome.detail : FollowOutcome → Nat
  | .none => 0
  | .pending => 0
  | .fired => 1
  | .passed => 2
  | .refused => 3
  | .dropped => 4

/-- CUE_DONE of a cue with its follow outcome (R64). -/
def raiseCueDone (cue : CueNumber) (outcome : FollowOutcome) (s : State) : State :=
  raiseEvent .cueDone 0 (cueBytes (some cue) ++ bytesOf 1 outcome.detail) s

/-- An entry taken out of the table, reported to the players (R64, R76). -/
def takeOut (slot : Nat) (cue : CueNumber) (s : State) : State := entryEnded cue (setEntry slot none s)

/-- What an AUTO GO's outcome writes into the entry that issued it (R63). -/
def GoOutcome.followed : GoOutcome → FollowOutcome
  | .accepted _ => .fired
  | .passed _ => .passed
  | .held | .stop | .lockout | .endOfList | .full | .notFound | .cut => .refused

/-- The comparison of an expired entry's follow target with standby, and the AUTO GO when they agree (R63). -/
def follow (target : Option CueNumber) (s : State) : FollowOutcome × GoResult :=
  if target ≠ none ∧ standbyNumber s = target then
    let r := decideGo .auto s
    (r.outcome.followed, r)
  else (.dropped, ⟨.endOfList, none, s⟩)

/-- Whether an AUTO GO fired the very cue that issued it, whose old entry it has then ended early (R54, R56). -/
def firedItself (cue : CueNumber) (outcome : GoOutcome) : Bool :=
  match outcome with
  | .accepted c => c == cue
  | .passed _ | .held | .stop | .lockout | .endOfList | .full | .notFound | .cut => false

/-- A follow outcome written into an entry that stands. -/
def writeOutcome (slot : Nat) (outcome : FollowOutcome) (s : State) : State :=
  match sparseFind s.seq.entries slot with
  | none => s
  | some e => setEntry slot (some { e with outcome := outcome }) s

/-- A postwait expires (R63): the answer is the slot of the entry an AUTO GO created, and the state. -/
def expire (slot : Nat) (s : State) : Option Nat × State :=
  match sparseFind s.seq.entries slot with
  | none => (none, s)
  | some e =>
    if e.finished then
      let r := follow e.followTarget (takeOut slot e.cue.number s)
      (r.2.slot, raiseCueDone e.cue.number r.1 r.2.state)
    else
      let r := follow e.followTarget (setEntry slot (some { e with postwait := .ended }) s)
      (r.2.slot,
        if firedItself e.cue.number r.2.outcome then r.2.state else writeOutcome slot r.1 r.2.state)

/-- Whether an entry's postwait has run out (R63). -/
def Entry.postwaitDue (e : Entry) : Bool := e.postwait == .running 0

/-- An entry with nothing left to wait for: finished, its postwait ABSENT or ENDED (R64). -/
def Entry.over (e : Entry) : Bool := e.finished && (e.postwait == .absent || e.postwait == .ended)

/-- An entry with nothing left is removed, with CUE_DONE (R64). -/
def sweepEntry (slot : Nat) (s : State) : State :=
  match sparseFind s.seq.entries slot with
  | none => s
  | some e => if e.over then raiseCueDone e.cue.number e.outcome (takeOut slot e.cue.number s) else s

/-- Every entry with nothing left is removed (R64). -/
def sweep (s : State) : State := forEach 1 16 sweepEntry s

/-- Expiries that follow one on another in one step: that of an entry, then that of the entry its AUTO GO created, and so on;
each AUTO GO moves standby on, so there are at most as many as cues. An entry with an action still due does not expire: its
actions fire first (R63). -/
def chase : Nat → Option Nat → State → State
  | 0, _, s => s
  | fuel + 1, o, s =>
    match o with
    | none => s
    | some slot =>
      match sparseFind s.seq.entries slot with
      | none => s
      | some e =>
        if e.postwaitDue = true ∧ e.nextDue = none ∧ holding s = false then
          let r := expire slot s
          chase fuel r.1 (sweep r.2)
        else s

/-- As many expiries as can follow one on another (R63). -/
def chaseFuel (s : State) : Nat := s.cst.cues.length + 2

/-- The postwait of an entry expires when it has run out, no action of the entry is due and hold is not effective (R63). -/
def postwaitExpiry (slot : Nat) (s : State) : State := chase (chaseFuel s) (some slot) s

/-- Whether the postwait of a FOLLOW entry can start (R63). -/
def Entry.followReady (e : Entry) : Bool := e.finished && e.postwait == .waiting

/-- The FOLLOW postwait of the entry of a slot starts, and expires at once when it is 0; none when it cannot start (R63). -/
def startFollow (slot : Nat) (s : State) : Option State :=
  match sparseFind s.seq.entries slot with
  | none => none
  | some e =>
    if e.followReady then
      some (postwaitExpiry slot (setEntry slot (some { e with postwait := .running e.cue.postwait }) s))
    else none

/-- The first FOLLOW postwait that can start among the slots from `slot` on. -/
def startFirst : Nat → Nat → State → Option State
  | 0, _, _ => none
  | count + 1, slot, s =>
    match startFollow slot s with
    | some t => some t
    | none => startFirst count (slot + 1) s

/-- FOLLOW postwaits started until none can start, at most `fuel` of them. -/
def startAll : Nat → State → State
  | 0, s => s
  | fuel + 1, s =>
    match startFirst 16 1 s with
    | none => s
    | some t => startAll fuel t

/-- SEQ takes every consequence of the completions of this step: removals, and the postwaits of FOLLOW entries that start
(R62, R63, R64). A step starts at most one postwait an entry, of 16 that stood and of those its AUTO GOs create. -/
def settleSeq (s : State) : State := startAll (s.cst.cues.length + 18) (sweep s)

/-- A GO or FIRE decided, with the expiries and removals that follow in its step (R50, R56). -/
def finishGo (r : GoResult) : State := settleSeq (chase (chaseFuel r.state) r.slot (sweep r.state))

/-! ### The millisecond boundary (R51, R60, R65) -/

/-- An entry's counts at a boundary at which hold is not effective (R60, R63). -/
def Entry.count (e : Entry) : Entry :=
  match e.phase with
  | .prewait => { e with prewait := e.prewait - 1 }
  | .active | .done =>
    { e with
      elapsed := countUp longest e.elapsed
      postwait :=
        match e.postwait with
        | .running r => .running (r - 1)
        | .absent => .absent
        | .waiting => .waiting
        | .ended => .ended }

/-- SEQ's counts at a boundary: the lockout always, the entries outside hold (R51, R60, R65). -/
def countSeq (held : Bool) (s : State) : State :=
  s.withSeq { s.seq with
    lockout := s.seq.lockout - 1
    entries := if held then s.seq.entries else s.seq.entries.map fun e => (e.1, e.2.count) }

/-- What is due on one entry at a boundary: the end of its prewait, its actions, its expiry (R60, R63). -/
def entryBoundary (slot : Nat) (s : State) : State :=
  settleSeq (postwaitExpiry slot (sweep (fireDue slot 16 (prewaitEnd slot s))))

/-- What is due on the entries that stand at a boundary, slot by slot; those created meanwhile are past it (R60). -/
def entriesBoundary (slots : List Nat) (s : State) : State :=
  match slots with
  | [] => s
  | slot :: rest => entriesBoundary rest (entryBoundary slot s)

/-- SEQ's work at a boundary, the counts being made (R60, R65). -/
def sequencerBoundary (taking : Taking) (s : State) : State :=
  match taking with
  | .split => s
  | .whole => if holding s then s else entriesBoundary (s.seq.entries.map (·.1)) s

/-- One due action of an entry fires, when it is the one that fires next and hold is not effective (R60, R61, R65). -/
def actionFire (slot index : Nat) (s : State) : State :=
  if (sparseFind s.seq.entries slot).bind Entry.nextDue = some index ∧ holding s = false then
    fireAction slot index s
  else s

/-! ### LOCATE (R57) -/

/-- Whether a search for standby may land on a cue (R57). -/
def mayLand (s : State) (honourSkip : Bool) (c : Cue) : Bool := !(c.cut && (s.seq.skipCut || honourSkip))

/-- The highest index of a cue `ok` holds of, `first` being the index of the list's head. -/
def lastIndexFrom (ok : Cue → Bool) : List Cue → Nat → Option Nat
  | [], _ => none
  | c :: rest, first =>
    match lastIndexFrom ok rest (first + 1) with
    | some i => some i
    | none => if ok c then some first else none

/-- What LOCATE finds: mode EQUAL 0, AT_OR_AFTER 1, AT_OR_BEFORE 2 (R57). -/
def located (s : State) (number : CueNumber) (mode : Nat) (honourSkip : Bool) : Option Nat :=
  let ok := mayLand s honourSkip
  if mode = 0 then firstIndexFrom (fun c => c.number == number && ok c) s.cst.cues 0 1
  else if mode = 1 then firstIndexFrom (fun c => number.le c.number && ok c) s.cst.cues 0 1
  else lastIndexFrom (fun c => c.number.le number && ok c) s.cst.cues 1

/-- LOCATE moves standby to the cue it has found; to the one that is standby already is no change (R49, R57). -/
def locateTo (index : Nat) (s : State) : State :=
  if s.seq.standby = some index then s else moveStandby (some index) false s

/-! ### Settings, resets and loads (R67 to R70) -/

/-- The settings of SET SEQUENCER replaced; standby leaves a cut cue when skip-cut becomes set (R67). -/
def applySequencer (skipCut : Bool) (lockout : Nat) (s : State) : State :=
  let s1 := s.withSeq { s.seq with skipCut := skipCut, lockoutSetting := min 2000 lockout }
  match s1.seq.standby with
  | none => s1
  | some i =>
    match cueAt s1 i with
    | none => s1
    | some c => if eligible s1 c then s1 else moveStandby (nextEligible s1 i) false s1

/-- Every entry of some slots removed, each removal reported to the players (R68). -/
def removeEntries : List (Nat × Entry) → State → State
  | [], s => s
  | e :: rest, s => removeEntries rest (takeOut e.1 e.2.cue.number s)

/-- Every entry of some slots ended early (R70). -/
def endEntriesEarly : List (Nat × Entry) → State → State
  | [], s => s
  | e :: rest, s => endEntriesEarly rest (endEarly e.1 s)

/-- A taken RESET SHOW: SEQ empties its table, every block concerned takes its show reset, and standby becomes the first
eligible cue (R68, R69). -/
def showReset (s : State) : State :=
  let s1 := removeEntries s.seq.entries s
  let s2 := s1.withSeq { s1.seq with lockout := 0 }
  let s3 := forEach 1 12 resetGovernor (resetPlayers (resetMatrix s2))
  let s4 := resetTiming (resetHold (resetRelay s3))
  moveStandby (nextEligible s4 0) false s4

/-- Standby set to the first eligible cue of a loaded list (R70, R108). -/
def standbyAfterLoad (s : State) : State := moveStandby (nextEligible s 0) false s

end Sys2Proof.Machine
end

