-- ==== Sys2Proof/Machine/Cues.lean ====
section
/-!
DEFINITION. The cue store: the operation slot's endings (R100), the checks and clamps of cues and snapshots, edits of the two
tables, preflight-clean and the preflight's walk (R26 to R45).
-/

namespace Sys2Proof.Machine

/-! ### The end of an operation (R100) -/

/-- The operations as OP_DONE numbers them (R187). -/
inductive OpKind where
  | writePage
  | eraseSector
  | verifyClip
  | saveShow
  | load
  | preflight
  deriving DecidableEq, Repr

/-- An operation's number in OP_DONE (R187). -/
def OpKind.number : OpKind → Nat
  | .writePage => 0
  | .eraseSector => 1
  | .verifyClip => 2
  | .saveShow => 3
  | .load => 4
  | .preflight => 5

/-- The causes of a failure, MEMORY, VERIFY, NO_SHOW, FORMAT, CRC (R100). -/
inductive OpCause where
  | memory
  | verify
  | noShow
  | format
  | crc
  deriving DecidableEq, Repr

/-- A cause's number in OP_DONE (R187). -/
def OpCause.number : OpCause → Nat
  | .memory => 0
  | .verify => 1
  | .noShow => 2
  | .format => 3
  | .crc => 4

/-- The operation slot replaced. -/
def setSlot (o : Option Operation) (s : State) : State := s.withCmc { s.cmc with slot := o }

/-- The operation in the slot ends: the slot is freed and OP_DONE raised, with result OK 0, FAILED 1 or ABORTED 2, a third
byte that is the cause or the finding, and the value bytes (R100, R187). -/
def endOperation (kind : OpKind) (result third : Nat) (value : List Byte) (s : State) : State :=
  raiseEvent .opDone 0 (bytesOf 1 kind.number ++ bytesOf 1 result ++ bytesOf 1 third ++ value) (setSlot none s)

/-- An operation completes with result OK and a value of four bytes. -/
def opOk (kind : OpKind) (value : Nat) (s : State) : State := endOperation kind 0 0 (bytesOf 4 value) s

/-- An operation fails with a cause and a value of four bytes. -/
def opFailed (kind : OpKind) (cause : OpCause) (value : Nat) (s : State) : State :=
  endOperation kind 1 cause.number (bytesOf 4 value) s

/-- Whether the operation slot is occupied (R100). -/
def slotOccupied (s : State) : Bool := s.cmc.slot.isSome

/-! ### Checks and clamps of a cue (R28, R29) -/

/-- `lo ≤ n ≤ hi`. -/
def within (lo hi n : Nat) : Bool := decide (lo ≤ n ∧ n ≤ hi)

/-- A payload's kind and target are in range (R28, R168). -/
def payloadInRange : Payload → Bool
  | .eventOnly => true
  | .call clip target => within 0 255 clip && targetInRange target
  | .invalid _ _ _ => false

/-- The number of the class CALL in a cue's action (R133, R187). -/
abbrev callClass : Nat := 2

/-- An action's enumerated and index fields are in range (R28). -/
def workInRange : Work → Bool
  | .fade source bus _ _ => within 1 48 source && within 1 25 bus
  | .snap id _ => within 0 127 id
  | .play n clip loops _ _ => within 1 8 n && within 0 255 clip && within 0 255 loops
  | .stop n _ => within 1 8 n
  | .call clip target cls => within 0 255 clip && targetInRange target && cls == callClass
  | .govern n _ => within 1 12 n
  | .timer n _ payload => within 1 8 n && payloadInRange payload
  | .mark id => within 0 31 id
  | .unknown _ => false

/-- A cue passes R28. -/
def cueInRange (b : CueBody) : Bool :=
  cueNumberInRange b.number && within 0 2 b.follow && decide (b.actions.length ≤ 16)
    && b.actions.all fun a => workInRange a.work

/-- An action's level and time fields brought into range (R29). -/
def clampWork : Work → Work
  | .fade source bus level time => .fade source bus (clampLevel level) (min longest time)
  | .snap id time => .snap id (min longest time)
  | .play n clip loops level attack => .play n clip loops (clampLevel level) (min longest attack)
  | .stop n release => .stop n (min longest release)
  | .call clip target cls => .call clip target cls
  | .govern n level => .govern n (clampDepth level)
  | .timer n delay payload => .timer n (min longest delay) payload
  | .mark id => .mark id
  | .unknown kind => .unknown kind

/-- A cue's level and time fields brought into range (R29). -/
def clampCue (b : CueBody) : CueBody :=
  { b with
    prewait := min longest b.prewait, postwait := min longest b.postwait
    actions := b.actions.map fun a => ⟨min longest a.offset, clampWork a.work⟩ }

/-- A follow byte as a follow mode (R187). -/
def followOf (n : Nat) : Follow := if n = 1 then .continue_ else if n = 2 then .follow else .none

/-- A follow mode's byte (R187). -/
def Follow.number : Follow → Nat
  | .none => 0
  | .continue_ => 1
  | .follow => 2

/-- The stored record of a cue in range (R26). -/
def cueOf (b : CueBody) : Cue where
  number := b.number
  cut := b.cut
  prewait := b.prewait
  follow := followOf b.follow
  postwait := b.postwait
  actions := b.actions

/-- The body that carries a stored cue (R32, R105). -/
def Cue.body (c : Cue) : CueBody where
  number := c.number
  cut := c.cut
  follow := c.follow.number
  prewait := c.prewait
  postwait := c.postwait
  actions := c.actions

/-- A cue put at its place in number order, or over the one with its number (R30). -/
def putCue (c : Cue) : List Cue → List Cue
  | [] => [c]
  | d :: rest =>
    if c.number = d.number then c :: rest
    else if c.number.lt d.number then c :: d :: rest
    else d :: putCue c rest

/-- The action count of the cue with a number, 0 when there is none (R30). -/
def actionsOf (s : State) (number : CueNumber) : Nat :=
  match cueNamed s number with
  | none => 0
  | some c => c.actions.length

/-! ### Edits (R30, R31, R34, R38, R43) -/

/-- The preflight report changed. -/
def onReport (f : Report → Report) (s : State) : State :=
  s.withCst { s.cst with report := f s.cst.report }

/-- Preflight-clean written (R38). -/
def setClean (v : Bool) (s : State) : State := s.withCst { s.cst with clean := v }

/-- A preflight in progress aborted: report ABORTED, slot freed, OP_DONE ABORTED, a verify read discarded (R43). -/
def abortPreflight (s : State) : State :=
  match s.cmc.slot with
  | some (.preflight _ _) =>
    endOperation .preflight 2 0 [] (discardTransfer .verify (onReport (fun r => { r with status := .aborted }) s))
  | _ => s

/-- What every edit of the show does to the preflight: preflight-clean cleared, a preflight aborted (R38, R43). -/
def editMade (s : State) : State := abortPreflight (setClean false s)

/-- The cue list replaced. -/
def setCues (cues : List Cue) (s : State) : State := s.withCst { s.cst with cues := cues }

/-- A cue stored: inserted or replaced, SEQ told, and the effects of an edit (R30). -/
def storeCue (c : Cue) (s : State) : State :=
  let old := cueIndex s c.number
  let s1 := setCues (putCue c s.cst.cues) s
  editMade
    (match old, cueIndex s1 c.number with
      | some i, _ => standbyAfterReplace i s1
      | none, some i => standbyAfterInsert i s1
      | none, none => s1)

/-- A cue deleted, SEQ told, and the effects of an edit (R31). -/
def removeCue (number : CueNumber) (s : State) : State :=
  match cueIndex s number with
  | none => s
  | some i =>
    editMade (standbyAfterDelete i number (setCues (s.cst.cues.filter fun c => c.number != number) s))

/-- No two entries of a snapshot name the same crosspoint (R33, R34). -/
def distinctCrosspoints : List SnapEntry → Bool
  | [] => true
  | e :: rest => (rest.all fun f => f.source != e.source || f.bus != e.bus) && distinctCrosspoints rest

/-- A snapshot passes R34. -/
def snapshotInRange (id : Nat) (entries : List SnapEntry) : Bool :=
  within 0 127 id && within 1 64 entries.length
    && (entries.all fun e => within 1 48 e.source && within 1 25 e.bus) && distinctCrosspoints entries

/-- A snapshot's levels brought into range (R34). -/
def clampEntries (entries : List SnapEntry) : List SnapEntry :=
  entries.map fun e => { e with level := clampLevel e.level }

/-- The entry count of a snapshot, 0 when its place is absent (R34). -/
def entriesOf (s : State) (id : Nat) : Nat :=
  match sparseFind s.cst.snapshots id with
  | none => 0
  | some entries => entries.length

/-- A snapshot stored or removed, and the effects of an edit (R34). -/
def putSnapshot (id : Nat) (entries : Option (List SnapEntry)) (s : State) : State :=
  editMade (s.withCst { s.cst with snapshots := sparsePut s.cst.snapshots id entries })

/-! ### The preflight (R39 to R42) -/

/-- A fault counted, and recorded while fewer than 8 records are held (R42). -/
def recordFault (cue : CueNumber) (action : Nat) (kind : FaultKind) (s : State) : State :=
  onReport (fun r =>
    { r with
      total := countUp 65535 r.total
      records := if r.records.length < 8 then r.records ++ [⟨cue, action, kind⟩] else r.records }) s

/-- The clip an action names for the preflight, with the target it calls (R40). -/
def clipNamed : Work → Option (Nat × Option Target)
  | .play _ clip _ _ _ => some (clip, none)
  | .call clip target _ => some (clip, some target)
  | .timer _ _ (.call clip target) => some (clip, some target)
  | .timer _ _ .eventOnly => none
  | .timer _ _ (.invalid _ _ _) => none
  | .fade _ _ _ _ | .snap _ _ | .stop _ _ | .govern _ _ | .mark _ | .unknown _ => none

/-- A fault recorded when a condition holds. -/
def recordIf (bad : Bool) (cue : CueNumber) (action : Nat) (kind : FaultKind) (s : State) : State :=
  if bad then recordFault cue action kind s else s

/-- Whether an action's target, if it has one, selects no enabled zone (R40). -/
def emptyTarget (s : State) (t : Option Target) : Bool :=
  match t with
  | none => false
  | some target => !targetSelectsAny target s

/-- An action's checks made and its faults recorded; `good` is the verified result of its clip, if it was verified (R40). -/
def judgeAction (cue : CueNumber) (index : Nat) (good : Option Bool) (w : Work) (s : State) : State :=
  match w with
  | .snap id _ => recordIf (sparseFind s.cst.snapshots id).isNone cue index .missingSnapshot s
  | _ =>
    match clipNamed w with
    | none => s
    | some (clip, target) =>
      let missing := (clipEntry s clip).isNone
      let s1 := recordIf missing cue index .missingClip s
      let s2 := recordIf (!missing && good == some false) cue index .badClipCrc s1
      recordIf (emptyTarget s target) cue index .emptyTarget s2

/-- The walk moved past the action it stands at; past the last action of a cue, the cue counts as walked (R40). -/
def nextAction (verify : Bool) (w : Walk) (count : Nat) (s : State) : State :=
  if w.action < count then setSlot (some (.preflight verify { w with action := w.action + 1 })) s
  else
    onReport (fun r => { r with walked := countUp 65535 r.walked })
      (setSlot (some (.preflight verify { w with cue := w.cue + 1, action := 1 })) s)

/-- Whether the last non-cut cue of a list follows on (R42). -/
def lastFollows (cues : List Cue) : Option CueNumber :=
  match (cues.filter fun c => !c.cut).getLast? with
  | none => none
  | some c => if c.follow = .none then none else some c.number

/-- The preflight completes: the final check, the report, OP_DONE and preflight-clean (R42). -/
def completePreflight (s : State) : State :=
  let s1 :=
    match lastFollows s.cst.cues with
    | none => s
    | some cue => recordFault cue 0 .followAtEnd s
  let total := s1.cst.report.total
  setClean (total == 0) (opOk .preflight total (onReport (fun r => { r with status := .complete }) s1))

/-- A memory error on a verify read ends the preflight FAILED, with the clip's id (R41). -/
def failPreflight (clip : Nat) (s : State) : State :=
  setClean false
    (endOperation .preflight 1 OpCause.memory.number (bytesOf 4 clip)
      (onReport (fun r => { r with status := .failed }) s))

/-- The clip an action needs read before it can be checked, with its entry: verify set, the clip present and not yet in the set
of verified clips (R41). -/
def clipToRead (s : State) (verify : Bool) (w : Walk) (work : Work) : Option (Nat × DirEntry) :=
  match clipNamed work with
  | none => none
  | some (clip, _) =>
    if verify = true ∧ (sparseFind w.verified clip).isNone = true then
      (clipEntry s clip).map fun e => (clip, e)
    else none

/-- The result recorded for the clip an action names, if any (R41). -/
def verifiedResult (w : Walk) (work : Work) : Option Bool :=
  (clipNamed work).bind fun c => sparseFind w.verified c.1

/-- The walk's step at a millisecond boundary (R40): the next action checked, a marker cue passed, the final check made, or a
clip's reading begun; while a clip is being read the walk waits. -/
def walkStep (s : State) : State :=
  match s.cmc.slot with
  | some (.preflight verify w) =>
    if w.reading.isSome then s
    else
      match cueAt s w.cue with
      | none => completePreflight s
      | some c =>
        match c.actions[w.action - 1]? with
        | none => nextAction verify w 0 s
        | some a =>
          match clipToRead s verify w a.work with
          | some (clip, e) =>
            setSlot (some (.preflight verify { w with reading := some (clip, e, 0, 0xFFFF#16) })) s
          | none =>
            nextAction verify w c.actions.length
              (judgeAction c.number w.action (verifiedResult w a.work) a.work s)
  | _ => s

/-- The CRC of a clip carried on over one of its blocks: the data bytes the entry describes, and none beyond (R41, R94). -/
def crcOverBlock (e : DirEntry) (block : Nat) (crc : BitVec 16) (data : List Byte) : BitVec 16 :=
  crcFrom crc (data.take (e.bytes - 4096 * block))

/-- A block of the clip that the walk reads has arrived: the next block is due, or the clip joins the verified set with its
result and the action is checked (R40, R41). -/
def walkBlock (data : List Byte) (s : State) : State :=
  match s.cmc.slot with
  | some (.preflight verify w) =>
    match w.reading with
    | none => s
    | some (clip, e, block, crc) =>
      let formed := crcOverBlock e block crc data
      if block + 1 < e.blocks then
        setSlot (some (.preflight verify { w with reading := some (clip, e, block + 1, formed) })) s
      else
        let w1 := { w with verified := sparsePut w.verified clip (some (formed == e.crc)), reading := none }
        match cueAt s w.cue with
        | none => setSlot (some (.preflight verify w1)) s
        | some c =>
          match c.actions[w.action - 1]? with
          | none => setSlot (some (.preflight verify w1)) s
          | some a =>
            nextAction verify w1 c.actions.length
              (judgeAction c.number w.action (some (formed == e.crc)) a.work s)
  | _ => s

/-- The walk's clip read has ended as a memory error (R41). -/
def walkError (s : State) : State :=
  match s.cmc.slot with
  | some (.preflight _ w) =>
    match w.reading with
    | none => s
    | some (clip, _, _, _) => failPreflight clip s
  | _ => s

/-- A preflight accepted: the report emptied, the walk at the first cue (R39). -/
def startPreflight (verify : Bool) (s : State) : State :=
  setSlot (some (.preflight verify { cue := 1, action := 1, verified := [], reading := none }))
    (onReport (fun _ => { status := .running, verify := verify, walked := 0, total := 0, records := [] }) s)

end Sys2Proof.Machine
end

