-- ==== Sys2Proof/Machine/Operands.lean ====
section
/-!
DEFINITION. The layouts of the link (R187): fields and their bytes, the bodies of requests read and written, the request
table with its codes and body lengths, and the status codes.
-/

namespace Sys2Proof.Machine

/-! ### Fields -/

/-- The bytes of one field (R187). -/
def Field.encode : Field → List Byte
  | .u8 v => bytesOf 1 v
  | .u16 v => bytesOf 2 v
  | .u24 v => bytesOf 3 v
  | .u32 v => bytesOf 4 v
  | .level x => levelBytes x
  | .bytes data => data

/-- The bytes of some fields, one after the other (R187). -/
def encodeFields (fields : List Field) : List Byte := fields.flatMap Field.encode

/-- A flag's field: 0 for clear and 1 for set (R187). -/
def flagField (b : Bool) : Field := .u8 (flagNumber b)

/-- A cue number's fields; none is a major of 0 (R187). -/
def cueFields (n : Option CueNumber) : List Field := [.bytes (cueBytes n)]

/-- The unsigned number of `count` bytes at a place of a body (R187). -/
def natAt (body : List Byte) (first count : Nat) : Nat := unsignedOf ((body.drop first).take count)

/-- The level at a place of a body (R187). -/
def levelAt (body : List Byte) (first : Nat) : Level := signedOf ((body.drop first).take 2)

/-- The cue number at a place of a body (R187). -/
def cueNumberAt (body : List Byte) (first : Nat) : CueNumber := ⟨natAt body first 2, natAt body (first + 2) 1⟩

/-! ### Targets, payloads and actions (R187, Cue record) -/

/-- A target from its kind byte and its target byte: GROUPS 0, ZONE 1 (R187). -/
def targetOf (kind value : Nat) : Target :=
  if kind = 0 then .groups value else if kind = 1 then .zone value else .invalid kind value

/-- The kind and target bytes of a target (R187). -/
def targetFields : Target → List Field
  | .groups mask => [.u8 0, .u8 mask]
  | .zone n => [.u8 1, .u8 n]
  | .invalid kind value => [.u8 kind, .u8 value]

/-- A payload from its kind byte, clip and target: EVENT_ONLY 0, CALL 1 (R187). -/
def payloadOf (kind clip : Nat) (target : Target) : Payload :=
  if kind = 0 then .eventOnly else if kind = 1 then .call clip target else .invalid kind clip target

/-- The payload kind, clip and target fields of a payload; fields not used are 0 (R187). -/
def payloadFields : Payload → List Field
  | .eventOnly => [.u8 0, .u16 0, .u8 0, .u8 0]
  | .call clip target => .u8 1 :: .u16 clip :: targetFields target
  | .invalid kind clip target => .u8 kind :: .u16 clip :: targetFields target

/-- The work of the action whose 16 bytes are given (R187). -/
def workAt (b : List Byte) : Work :=
  match natAt b 0 1 with
  | 0 => .fade (natAt b 5 1) (natAt b 6 1) (levelAt b 7) (natAt b 9 4)
  | 1 => .snap (natAt b 5 1) (natAt b 6 4)
  | 2 => .play (natAt b 5 1) (natAt b 6 2) (natAt b 8 2) (levelAt b 10) (natAt b 12 4)
  | 3 => .stop (natAt b 5 1) (natAt b 6 4)
  | 4 => .call (natAt b 5 2) (targetOf (natAt b 7 1) (natAt b 8 1)) (natAt b 9 1)
  | 5 => .govern (natAt b 5 1) (levelAt b 6)
  | 6 => .timer (natAt b 5 1) (natAt b 6 4)
      (payloadOf (natAt b 10 1) (natAt b 11 2) (targetOf (natAt b 13 1) (natAt b 14 1)))
  | 7 => .mark (natAt b 5 1)
  | kind => .unknown kind

/-- The fields of a work after the action's kind and offset (R187). -/
def workFields : Work → List Field
  | .fade source bus level time => [.u8 source, .u8 bus, .level level, .u32 time]
  | .snap id time => [.u8 id, .u32 time]
  | .play n clip loops level attack => [.u8 n, .u16 clip, .u16 loops, .level level, .u32 attack]
  | .stop n release => [.u8 n, .u32 release]
  | .call clip target cls => [.u16 clip] ++ targetFields target ++ [.u8 cls]
  | .govern n level => [.u8 n, .level level]
  | .timer n delay payload => [.u8 n, .u32 delay] ++ payloadFields payload
  | .mark id => [.u8 id]
  | .unknown _ => []

/-- A work's kind byte: FADE, SNAP, PLAY, STOP, CALL, GOVERN, TIMER, MARK (R187). -/
def workKind : Work → Nat
  | .fade _ _ _ _ => 0
  | .snap _ _ => 1
  | .play _ _ _ _ _ => 2
  | .stop _ _ => 3
  | .call _ _ _ => 4
  | .govern _ _ => 5
  | .timer _ _ _ => 6
  | .mark _ => 7
  | .unknown kind => kind

/-- The 16 bytes of an action, those not used 0 (R187). -/
def actionBytes (a : Action) : List Byte :=
  (encodeFields (.u8 (workKind a.work) :: .u32 a.offset :: workFields a.work) ++ List.replicate 16 0).take 16

/-- `count` actions from a place of a body on (R187). -/
def actionsAt (body : List Byte) (first : Nat) : Nat → List Action
  | 0 => []
  | count + 1 =>
    let b := (body.drop first).take 16
    ⟨natAt b 1 4, workAt b⟩ :: actionsAt body (first + 16) count

/-- A cue record from its bytes (R187). -/
def cueAtBytes (b : List Byte) : CueBody where
  number := cueNumberAt b 0
  cut := natAt b 3 1 != 0
  follow := natAt b 4 1
  prewait := natAt b 6 4
  postwait := natAt b 10 4
  actions := actionsAt b 14 (natAt b 5 1)

/-- A cue record's bytes (R187). -/
def cueBodyBytes (c : CueBody) : List Byte :=
  encodeFields (cueFields (some c.number) ++ [flagField c.cut, .u8 c.follow, .u8 c.actions.length,
    .u32 c.prewait, .u32 c.postwait]) ++ c.actions.flatMap actionBytes

/-! ### The other bodies -/

/-- `count` snapshot entries from a place of a body on (R187). -/
def entriesAt (body : List Byte) (first : Nat) : Nat → List SnapEntry
  | 0 => []
  | count + 1 =>
    ⟨natAt body first 1, natAt body (first + 1) 1, levelAt body (first + 2)⟩ :: entriesAt body (first + 4) count

/-- A snapshot entry's fields (R187). -/
def entryFields (e : SnapEntry) : List Field := [.u8 e.source, .u8 e.bus, .level e.level]

/-- A snapshot's fields: id, count, entries (R187). -/
def snapshotFields (id : Nat) (entries : List SnapEntry) : List Field :=
  [.u8 id, .u8 entries.length] ++ entries.flatMap entryFields

/-- The stored settings in a SET GOVERNOR body, after the governor (R124). -/
def governorAt (b : List Byte) : GovernorBody where
  enable := natAt b 1 1
  target := levelAt b 2
  tolerance := levelAt b 4
  stepMax := levelAt b 6
  trimMin := levelAt b 8
  trimMax := levelAt b 10
  ceiling := levelAt b 12

/-- The fields of a governor's stored settings (R124, R126). -/
def governorFields (g : GovernorBody) : List Field :=
  [.u8 g.enable, .level g.target, .level g.tolerance, .level g.stepMax, .level g.trimMin, .level g.trimMax,
    .level g.ceiling]

/-- A directory entry from its bytes, after the clip id (R187). -/
def directoryAt (b : List Byte) : DirectoryBody where
  present := natAt b 2 1
  firstPage := natAt b 3 4
  length := natAt b 7 4
  channels := natAt b 11 1
  loopFlag := natAt b 12 1
  loopStart := natAt b 13 4
  loopEnd := natAt b 17 4
  crc := BitVec.ofNat 16 (natAt b 21 2)

/-- The fields of a directory entry after the clip id (R187). -/
def directoryFields (d : DirectoryBody) : List Field :=
  [.u8 d.present, .u32 d.firstPage, .u32 d.length, .u8 d.channels, .u8 d.loopFlag, .u32 d.loopStart, .u32 d.loopEnd,
    .u16 d.crc.toNat]

/-- The stored fields in a SET ZONE body, after the zone (R146). -/
def zoneAt (b : List Byte) : ZoneBody where
  enabled := natAt b 1 1
  group := natAt b 2 1
  relay := levelAt b 3
  page := levelAt b 5
  depth := levelAt b 7

/-- The fields of a zone's stored fields (R129, R149). -/
def zoneFields (z : ZoneBody) : List Field :=
  [.u8 z.enabled, .u8 z.group, .level z.relay, .level z.page, .level z.depth]

/-- The fields of a PAGE request (R148). -/
def pageAt (b : List Byte) : PageBody where
  cls := natAt b 0 1
  sourceKind := natAt b 1 1
  clip := natAt b 2 2
  target := targetOf (natAt b 4 1) (natAt b 5 1)

/-- The paging settings in a SET PAGING body (R147). -/
def pagingAt (b : List Byte) : PagingBody where
  talkSource := natAt b 0 1
  talkLevel := levelAt b 1
  talkGroups := natAt b 3 1
  attack := natAt b 4 2
  release := natAt b 6 2

/-- The fields of the paging settings (R147, R149). -/
def pagingFields (p : PagingBody) : List Field :=
  [.u8 p.talkSource, .level p.talkLevel, .u8 p.talkGroups, .u16 p.attack, .u16 p.release]

/-- The line settings in a SET LINE body, after the line (R165). -/
def lineAt (b : List Byte) : LineBody where
  activeLevel := natAt b 1 1
  debounce := natAt b 2 1
  mode := natAt b 3 1

/-- The fields of a line's settings (R165, R174). -/
def lineFields (l : LineBody) : List Field := [.u8 l.activeLevel, .u8 l.debounce, .u8 l.mode]

/-- The stop settings in a SET STOP body (R158, R187). -/
def stopAt (b : List Byte) : StopBody where
  depth := levelAt b 0
  attack := natAt b 2 2
  release := natAt b 4 2
  announceBuses := natAt b 6 2
  announceLevel := levelAt b 8
  foldbackLevel := levelAt b 10

/-- The fields of the stop settings (R158, R160). -/
def stopFields (g : StopBody) : List Field :=
  [.level g.depth, .u16 g.attack, .u16 g.release, .u16 g.announceBuses, .level g.announceLevel, .level g.foldbackLevel]

/-! ### The request table (R187) -/

/-- The request of a code, when the code is in the request table, with the body length the table gives for it, formed from
the request's own count field where it has one (R179, R187). -/
def requestAt (code : Nat) (b : List Byte) : Option (Nat × Request) :=
  match code with
  | 0x01 => some (0, .identify)
  | 0x02 => some (0, .status)
  | 0x03 => some (0, .takeEvent)
  | 0x04 => some (3, .setEventMask (natAt b 0 3))
  | 0x05 => some (0, .resetDevice)
  | 0x10 => some (0, .enterShow)
  | 0x11 => some (0, .leaveShow)
  | 0x12 => some (0, .resetShow)
  | 0x13 => some (1, .hold (natAt b 0 1))
  | 0x14 => some (1, .showStop (natAt b 0 1))
  | 0x18 => some (0, .go)
  | 0x19 => some (3, .fire (cueNumberAt b 0))
  | 0x1A => some (5, .locate (cueNumberAt b 0) (natAt b 3 1) (natAt b 4 1))
  | 0x1B => some (0, .readRunning)
  | 0x1C => some (3, .setSequencer (natAt b 0 1) (natAt b 1 2))
  | 0x20 => some (14 + 16 * natAt b 5 1, .writeCue (cueAtBytes b))
  | 0x21 => some (3, .readCue (cueNumberAt b 0))
  | 0x22 => some (3, .deleteCue (cueNumberAt b 0))
  | 0x23 => some (3, .listCues (cueNumberAt b 0))
  | 0x24 => some (2 + 4 * natAt b 1 1, .writeSnapshot (natAt b 0 1) (entriesAt b 2 (natAt b 1 1)))
  | 0x25 => some (1, .readSnapshot (natAt b 0 1))
  | 0x26 => some (1, .deleteSnapshot (natAt b 0 1))
  | 0x27 => some (1, .preflight (natAt b 0 1))
  | 0x28 => some (0, .readPreflight)
  | 0x30 => some (8, .setCrosspoint (natAt b 0 1) (natAt b 1 1) (levelAt b 2) (natAt b 4 4))
  | 0x31 => some (2, .readCrosspoint (natAt b 0 1) (natAt b 1 1))
  | 0x32 => some (3, .setBusMaster (natAt b 0 1) (levelAt b 1))
  | 0x33 => some (0, .readMeters)
  | 0x38 => some (14, .setGovernor (natAt b 0 1) (governorAt b))
  | 0x39 => some (1, .readGovernor (natAt b 0 1))
  | 0x3A => some (1, .restartGovernor (natAt b 0 1))
  | 0x40 => some (11, .play (natAt b 0 1) (natAt b 1 2) (natAt b 3 2) (levelAt b 5) (natAt b 7 4))
  | 0x41 => some (5, .stopPlayer (natAt b 0 1) (natAt b 1 4))
  | 0x42 => some (1, .readPlayer (natAt b 0 1))
  | 0x43 => some (4, .setPlayer (natAt b 0 4))
  | 0x48 => some (1028, .writePage (natAt b 0 4) (b.drop 4))
  | 0x49 => some (4, .readPage (natAt b 0 4))
  | 0x4A => some (4, .eraseSector (natAt b 0 4))
  | 0x4B => some (23, .writeDirectoryEntry (natAt b 0 2) (directoryAt b))
  | 0x4C => some (2, .readDirectoryEntry (natAt b 0 2))
  | 0x4D => some (2, .verifyClip (natAt b 0 2))
  | 0x4E => some (0, .saveShow)
  | 0x4F => some (0, .loadShow)
  | 0x50 => some (9, .setZone (natAt b 0 1) (zoneAt b))
  | 0x51 => some (1, .readZone (natAt b 0 1))
  | 0x52 => some (6, .page (pageAt b))
  | 0x53 => some (2, .cancelPage (natAt b 0 2))
  | 0x54 => some (0, .readPageQueue)
  | 0x55 => some (8, .setPaging (pagingAt b))
  | 0x58 => some (0, .readClock)
  | 0x59 => some (11, .armTimer (natAt b 0 1) (natAt b 1 1) (natAt b 2 4)
      (payloadOf (natAt b 6 1) (natAt b 7 2) (targetOf (natAt b 9 1) (natAt b 10 1))))
  | 0x5A => some (1, .disarmTimer (natAt b 0 1))
  | 0x5B => some (0, .readTimers)
  | 0x5C => some (0, .readMarks)
  | 0x5D => some (0, .readGoRecord)
  | 0x5E => some (4, .setLine (natAt b 0 1) (lineAt b))
  | 0x5F => some (12, .setStop (stopAt b))
  | _ => none

/-- What a request frame's code and body spell: the code and then the length are checked (R179). -/
def parseRequest (code : Nat) (body : List Byte) : Parsed :=
  match requestAt code body with
  | none => .unknown code
  | some (length, r) => if body.length = length then .request r else .badLength code

/-- The code of a request (R187). -/
def requestCode : Request → Nat
  | .identify => 0x01
  | .status => 0x02
  | .takeEvent => 0x03
  | .setEventMask _ => 0x04
  | .resetDevice => 0x05
  | .enterShow => 0x10
  | .leaveShow => 0x11
  | .resetShow => 0x12
  | .hold _ => 0x13
  | .showStop _ => 0x14
  | .go => 0x18
  | .fire _ => 0x19
  | .locate _ _ _ => 0x1A
  | .readRunning => 0x1B
  | .setSequencer _ _ => 0x1C
  | .writeCue _ => 0x20
  | .readCue _ => 0x21
  | .deleteCue _ => 0x22
  | .listCues _ => 0x23
  | .writeSnapshot _ _ => 0x24
  | .readSnapshot _ => 0x25
  | .deleteSnapshot _ => 0x26
  | .preflight _ => 0x27
  | .readPreflight => 0x28
  | .setCrosspoint _ _ _ _ => 0x30
  | .readCrosspoint _ _ => 0x31
  | .setBusMaster _ _ => 0x32
  | .readMeters => 0x33
  | .setGovernor _ _ => 0x38
  | .readGovernor _ => 0x39
  | .restartGovernor _ => 0x3A
  | .play _ _ _ _ _ => 0x40
  | .stopPlayer _ _ => 0x41
  | .readPlayer _ => 0x42
  | .setPlayer _ => 0x43
  | .writePage _ _ => 0x48
  | .readPage _ => 0x49
  | .eraseSector _ => 0x4A
  | .writeDirectoryEntry _ _ => 0x4B
  | .readDirectoryEntry _ => 0x4C
  | .verifyClip _ => 0x4D
  | .saveShow => 0x4E
  | .loadShow => 0x4F
  | .setZone _ _ => 0x50
  | .readZone _ => 0x51
  | .page _ => 0x52
  | .cancelPage _ => 0x53
  | .readPageQueue => 0x54
  | .setPaging _ => 0x55
  | .readClock => 0x58
  | .armTimer _ _ _ _ => 0x59
  | .disarmTimer _ => 0x5A
  | .readTimers => 0x5B
  | .readMarks => 0x5C
  | .readGoRecord => 0x5D
  | .setLine _ _ => 0x5E
  | .setStop _ => 0x5F

/-- The body of a request as its frame carries it (R187). -/
def requestBody : Request → List Byte
  | .setEventMask mask => bytesOf 3 mask
  | .hold a | .showStop a => bytesOf 1 a
  | .fire n | .readCue n | .deleteCue n | .listCues n => cueBytes (some n)
  | .locate n mode honourSkip => cueBytes (some n) ++ bytesOf 1 mode ++ bytesOf 1 honourSkip
  | .setSequencer skipCut lockout => bytesOf 1 skipCut ++ bytesOf 2 lockout
  | .writeCue c => cueBodyBytes c
  | .writeSnapshot id entries => encodeFields (snapshotFields id entries)
  | .readSnapshot id | .deleteSnapshot id => bytesOf 1 id
  | .preflight v => bytesOf 1 v
  | .setCrosspoint source bus level time => encodeFields [.u8 source, .u8 bus, .level level, .u32 time]
  | .readCrosspoint source bus => encodeFields [.u8 source, .u8 bus]
  | .setBusMaster bus level => encodeFields [.u8 bus, .level level]
  | .setGovernor n g => encodeFields (.u8 n :: governorFields g)
  | .readGovernor n | .restartGovernor n => bytesOf 1 n
  | .play n clip loops level attack => encodeFields [.u8 n, .u16 clip, .u16 loops, .level level, .u32 attack]
  | .stopPlayer n release => encodeFields [.u8 n, .u32 release]
  | .readPlayer n => bytesOf 1 n
  | .setPlayer t => bytesOf 4 t
  | .writePage p data => bytesOf 4 p ++ data
  | .readPage p => bytesOf 4 p
  | .eraseSector k => bytesOf 4 k
  | .writeDirectoryEntry clip d => encodeFields (.u16 clip :: directoryFields d)
  | .readDirectoryEntry clip | .verifyClip clip => bytesOf 2 clip
  | .setZone n z => encodeFields (.u8 n :: zoneFields z)
  | .readZone n => bytesOf 1 n
  | .page p => encodeFields ([.u8 p.cls, .u8 p.sourceKind, .u16 p.clip] ++ targetFields p.target)
  | .cancelPage n => bytesOf 2 n
  | .setPaging p => encodeFields (pagingFields p)
  | .armTimer n kind time payload => encodeFields ([.u8 n, .u8 kind, .u32 time] ++ payloadFields payload)
  | .disarmTimer n => bytesOf 1 n
  | .setLine n l => encodeFields (.u8 n :: lineFields l)
  | .setStop g => encodeFields (stopFields g)
  | .identify | .status | .takeEvent | .resetDevice | .enterShow | .leaveShow | .resetShow | .go | .readRunning
  | .readPreflight | .readMeters | .saveShow | .loadShow | .readPageQueue | .readClock | .readTimers | .readMarks
  | .readGoRecord => []

/-! ### Status codes and reply frames (R180, R187) -/

/-- A status code (R187). -/
def Status.code : Status → Nat
  | .ok => 0x00
  | .accepted => 0x01
  | .okClamped => 0x02
  | .frameError => 0x10
  | .unknownRequest => 0x11
  | .badLength => 0x12
  | .outOfRange => 0x13
  | .locked => 0x14
  | .busy => 0x15
  | .notFound => 0x16
  | .duplicate => 0x17
  | .full => 0x18
  | .inUse => 0x19
  | .held => 0x1A
  | .lockout => 0x1B
  | .endOfList => 0x1C
  | .notClean => 0x1D
  | .cut => 0x1E
  | .stop => 0x1F

/-- A reply's body: the status byte and the contents (R180). -/
def Reply.body (r : Reply) : List Byte := bytesOf 1 r.status.code ++ encodeFields r.contents

/-- The bytes of a frame: marker, length, kind, code, tag, body and CRC, low byte first (R187). -/
def frameBytes (kind code tag : Nat) (body : List Byte) : List Byte :=
  let covered := bytesOf 2 body.length ++ bytesOf 1 kind ++ bytesOf 1 code ++ bytesOf 1 tag ++ body
  0xC5#8 :: (covered ++ bytesOf 2 (crcOf covered).toNat)

/-- The frame of a reply: kind 02h (R180). -/
def Reply.frame (r : Reply) : List Byte := frameBytes 2 r.code r.tag r.body

/-- The frame of a request: kind 01h (R187). -/
def requestFrame (tag : Nat) (r : Request) : List Byte := frameBytes 1 (requestCode r) tag (requestBody r)

end Sys2Proof.Machine
end

