-- ==== Sys2Proof/Machine/Settings.lean ====
section
/-!
DEFINITION. Event-line deliveries (R167), and what each settings request checks, clamps and does, shared by the requests
and by the completion of a show load (R95, R96, R108, R124, R146, R147, R159, R165).
-/

namespace Sys2Proof.Machine

/-- A flag byte is neither set nor clear. -/
def badFlag (n : Nat) : Bool := !within 0 1 n

/-! ### Line deliveries (R167) -/

/-- An assertion of a line delivered to the block that owns its meaning: GO 1, HOLD 2, STOP 3, TALK 4 (R167). -/
def deliverAssertion (n : Nat) (s : State) : State :=
  if n = 1 then finishGo (decideGo .line s)
  else if n = holdLine ∨ n = stopLine then holdStopAsserted n s
  else if n = 4 then talkAsserted s
  else s

/-- A release of a line delivered; that of GO brings nothing (R167). -/
def deliverRelease (n : Nat) (s : State) : State :=
  if n = holdLine ∨ n = stopLine then holdStopReleased n s
  else if n = 4 then talkReleased s
  else s

/-- A RELEASED line held active for the debounce: ASSERTED, the assertion delivered (R166, R167). -/
def lineAssertion (n : Nat) (s : State) : State :=
  if lineDue .released n s then deliverAssertion n (enterLineState .asserted n s) else s

/-- An ASSERTED line held inactive for the debounce: RELEASED, the release delivered (R166, R167). -/
def lineRelease (n : Nat) (s : State) : State :=
  if lineDue .asserted n s then deliverRelease n (enterLineState .released n s) else s

/-! ### SET LINE (R165) -/

/-- The fields of SET LINE are in range (R165). -/
def lineInRange (n : Nat) (b : LineBody) : Bool :=
  within 1 4 n && within 0 1 b.activeLevel && within 0 1 b.mode && !(b.mode == 1 && (n == 1 || n == 4))

/-- A debounce brought into 2 to 50 ms (R165). -/
def clampDebounce (d : Nat) : Nat := max 2 (min 50 d)

/-- A line's stored configuration as a body: HIGH 0, LOW 1; LEVEL 0, TOGGLE 1 (R165, R187). -/
def Line.body (l : Line) : LineBody where
  activeLevel := if l.activeHigh then 0 else 1
  debounce := l.debounce
  mode := flagNumber l.toggle

/-- A line's configuration replaced, and the debouncer restarted or its count cleared (R165). -/
def Line.configure (b : LineBody) (l : Line) : Line :=
  let l1 := { l with
    activeHigh := b.activeLevel == 0, debounce := clampDebounce b.debounce, toggle := b.mode == 1 }
  if l1.activeHigh ≠ l.activeHigh then { l1 with state := .undecided, count := 0 }
  else if l1.debounce ≠ l.debounce then { l1 with count := 0 }
  else l1

/-- A taken SET LINE: the release of an asserted line first when its active level changes, the configuration replaced, and a
change of mode passed to the hold and stop unit (R165, R151). -/
def applyLine (n : Nat) (b : LineBody) (s : State) : State :=
  let l := lineOf s n
  let s1 :=
    if (b.activeLevel == 0) ≠ l.activeHigh ∧ l.state = .asserted then
      deliverRelease n (enterLineState .released n s)
    else s
  let s2 := setLineRecord n ((lineOf s1 n).configure b) s1
  if (b.mode == 1) ≠ l.toggle ∧ (n = holdLine ∨ n = stopLine) then holdStopModeChanged n s2 else s2

/-! ### The clip directory (R95, R96) -/

/-- The entry a body with present set describes (R95). -/
def entryOf (d : DirectoryBody) : DirEntry where
  firstPage := d.firstPage
  length := d.length
  channels := d.channels
  loop := if d.loopFlag = 1 then some (d.loopStart, d.loopEnd) else none
  crc := d.crc

/-- The body that carries an entry, or none; absent loop points are 0 (R95, R96, R187). The fields of an absent clip are 0: the
model's choice (log entry 43). -/
def directoryBody (e : Option DirEntry) : DirectoryBody :=
  match e with
  | none => ⟨0, 0, 0, 0, 0, 0, 0, 0⟩
  | some e =>
    ⟨1, e.firstPage, e.length, e.channels, flagNumber e.loop.isSome,
      (e.loop.map (·.1)).getD 0, (e.loop.map (·.2)).getD 0, e.crc⟩

/-- The loop points of a present entry pass R95. -/
def loopInRange (d : DirectoryBody) : Bool :=
  d.loopFlag == 0 || (d.loopFlag == 1 && decide (d.loopStart < d.loopEnd ∧ d.loopEnd ≤ d.length))

/-- A present entry passes the checks of R95 against a capacity. -/
def entryInRange (capacity : Nat) (d : DirectoryBody) : Bool :=
  within 1 2 d.channels && within 1 268435455 d.length && loopInRange d
    && decide (1024 ≤ d.firstPage) && decide (d.firstPage + 4 * (entryOf d).blocks ≤ capacity)

/-- A WRITE DIRECTORY ENTRY passes the checks of R95. -/
def directoryInRange (capacity clip : Nat) (d : DirectoryBody) : Bool :=
  within 0 255 clip && within 0 1 d.present && (d.present == 0 || entryInRange capacity d)

/-- A VERIFY CLIP of this clip aborted: the slot freed, OP_DONE ABORTED, a block read discarded (R104). -/
def abortVerify (clip : Nat) (s : State) : State :=
  match s.cmc.slot with
  | some (.verifyClip c _ _ _) =>
    if c = clip then
      let s1 := discardTransfer .link (endOperation .verifyClip 2 0 (bytesOf 2 clip) s)
      s1.withCmc { s1.cmc with linkWait := 0 }
    else s
  | _ => s

/-- The call voice acts on a change of this clip's entry (R145). -/
def voiceEntryChanged (clip : Nat) (s : State) : State :=
  if s.rpu.voice.clip = clip then voiceDirectoryChanged s else s

/-- A taken WRITE DIRECTORY ENTRY with all it does in its step (R96). -/
def writeDirectory (clip : Nat) (d : DirectoryBody) (s : State) : State :=
  let entry := if d.present = 1 then some (entryOf d) else none
  let s1 := s.withCmc { s.cmc with directory := sparsePut s.cmc.directory clip entry }
  voiceEntryChanged clip (directoryChanged clip (abortVerify clip (editMade s1)))

/-! ### Ranges of the other settings requests -/

/-- The fields of SET ZONE that are refused are in range (R146). -/
def zoneInRange (n : Nat) (b : ZoneBody) : Bool := within 1 24 n && within 1 8 b.group && within 0 1 b.enabled

/-- The fields of SET PAGING that are refused are in range (R147). -/
def pagingInRange (b : PagingBody) : Bool := within 1 32 b.talkSource && within 1 255 b.talkGroups

/-- The fields of SET GOVERNOR that are refused are in range (R124). -/
def governorInRange (n : Nat) (b : GovernorBody) : Bool := within 1 12 n && within 0 1 b.enable

/-- The fields of SET STOP that are refused are in range (R159). -/
def stopInRange (b : StopBody) : Bool := within 0 255 b.announceBuses

/-- A zone's body with its levels brought into range (R146). -/
def clampZone (b : ZoneBody) : ZoneBody :=
  { b with relay := clampLevel b.relay, page := clampLevel b.page, depth := clampDepth b.depth }

/-- A SET LINE body with its debounce brought into range (R165). -/
def clampLine (b : LineBody) : LineBody := { b with debounce := clampDebounce b.debounce }

/-- A bus master written (R3). -/
def setMaster (bus : Nat) (x : Level) (s : State) : State :=
  s.withMix { s.mix with masters := sparseWrite 0 s.mix.masters bus (clampLevel x) }

/-- The player hold time written; timers started afterwards take it (R85, R91). -/
def setHoldTime (t : Nat) (s : State) : State := s.withPly { s.ply with holdTime := min 60000 t }

end Sys2Proof.Machine
end

