-- ==== Sys2Proof/Machine/ShowFile.lean ====
section
/-!
DEFINITION. The show file: its encoding, its header and contents as a load judges them, and the completion step of a show
load (R105, R107, R108).
-/

namespace Sys2Proof.Machine

/-- The show a file holds: its tables and settings (R105). -/
structure ShowData where
  skipCut : Bool
  lockout : Nat
  cues : List Cue
  snapshots : Sparse (List SnapEntry)
  directory : Sparse DirEntry
  zones : List ZoneBody
  paging : PagingBody
  governors : List GovernorBody
  masters : List Level
  holdTime : Nat
  lines : List LineBody
  stop : StopBody
  deriving DecidableEq, Repr

/-- The empty show with every setting at its default (R108, R67, R112, R129, R147, R158, R165). -/
def ShowData.default : ShowData where
  skipCut := true
  lockout := 250
  cues := []
  snapshots := []
  directory := []
  zones := (List.range' 1 24).map fun n => (Zone.initial n).body
  paging := ({} : PagingSettings).body
  governors := List.replicate 12 ({} : GovSettings).body
  masters := List.replicate 25 0
  holdTime := 5000
  lines := List.replicate 4 ({} : Line).body
  stop := ({} : StopSettings).body

/-- The show as it stands (R105, R106). -/
def showNow (s : State) : ShowData where
  skipCut := s.seq.skipCut
  lockout := s.seq.lockoutSetting
  cues := s.cst.cues
  snapshots := s.cst.snapshots
  directory := s.cmc.directory
  zones := (List.range' 1 24).map fun n => (zoneOf s n).body
  paging := s.rpu.settings.body
  governors := (List.range' 1 12).map fun n => (governorOf s n).settings.body
  masters := (List.range' 1 25).map (masterOf s)
  holdTime := s.ply.holdTime
  lines := (List.range' 1 4).map fun n => (lineOf s n).body
  stop := s.hsu.settings.body

/-! ### Encoding (R105) -/

/-- The format version the part writes and accepts (R105, R181). -/
abbrev formatVersion : Nat := 1

/-- The four bytes of the format mark (R105). -/
def formatMark : List Byte := [0x56#8, 0x5A#8, 0x34#8, 0x38#8]

/-- Some bodies in order, each after its number, the first being 1 (R105). -/
def numberedBodies {α : Type} (fields : α → List Field) : Nat → List α → List Byte
  | _, [] => []
  | n, b :: rest => encodeFields (.u8 n :: fields b) ++ numberedBodies fields (n + 1) rest

/-- The parts of the file between the header and the CRC, in their order (R105). -/
def showParts (d : ShowData) : List Byte :=
  encodeFields [flagField d.skipCut, .u16 d.lockout]
    ++ (d.cues.flatMap fun c => cueBodyBytes c.body)
    ++ (d.snapshots.flatMap fun e => encodeFields (snapshotFields e.1 e.2))
    ++ (d.directory.flatMap fun e => encodeFields (.u16 e.1 :: directoryFields (directoryBody (some e.2))))
    ++ numberedBodies zoneFields 1 d.zones
    ++ encodeFields (pagingFields d.paging)
    ++ numberedBodies governorFields 1 d.governors
    ++ encodeFields (d.masters.map .level)
    ++ encodeFields [.u32 d.holdTime]
    ++ numberedBodies lineFields 1 d.lines
    ++ encodeFields (stopFields d.stop)

/-- The header for some parts: mark, version, file length with header and CRC, and the record counts (R105). -/
def showHeader (d : ShowData) (length : Nat) : List Byte :=
  formatMark ++ encodeFields
    [.u16 formatVersion, .u32 length, .u16 d.cues.length, .u8 d.snapshots.length, .u16 d.directory.length]

/-- The show file of a show (R105). -/
def showFile (d : ShowData) : List Byte :=
  let parts := showParts d
  let covered := showHeader d (parts.length + 17) ++ parts
  covered ++ bytesOf 2 (crcOf covered).toNat

/-! ### The header as a load examines it (R107) -/

/-- The header of a file, from the first block: the file length, or the cause the load fails with (R107). -/
def examineHeader (block : List Byte) : OpCause ⊕ Nat :=
  let length := natAt block 6 4
  if (block.take 1024).all (· == erased) then .inl .noShow
  else if block.take 4 ≠ formatMark ∨ natAt block 4 2 ≠ formatVersion then .inl .format
  else if length < 17 ∨ 1048576 < length then .inl .format
  else .inr length

/-- The CRC of a file agrees with its stored one (R107). -/
def fileCrcGood (file : List Byte) : Bool :=
  (crcOf (file.take (file.length - 2))).toNat == natAt file (file.length - 2) 2

/-! ### The contents as a load forms them (R107) -/

/-- The first `n` bytes and the rest, when there are that many. -/
def takeBytes (n : Nat) (b : List Byte) : Option (List Byte × List Byte) :=
  if n ≤ b.length then some (b.take n, b.drop n) else none

/-- `count` records read one after the other by a reader. -/
def readMany {α : Type} (read : List Byte → Option (α × List Byte)) :
    Nat → List Byte → Option (List α × List Byte)
  | 0, b => some ([], b)
  | count + 1, b =>
    match read b with
    | none => none
    | some (x, rest) =>
      match readMany read count rest with
      | none => none
      | some (xs, end_) => some (x :: xs, end_)

/-- A value kept when a check holds. -/
def ensure {α : Type} (ok : Bool) (x : α) : Option α := if ok then some x else none

/-- A cue record: in range, its levels and times too (R107). -/
def readCueRecord (b : List Byte) : Option (Cue × List Byte) :=
  match takeBytes (14 + 16 * natAt b 5 1) b with
  | none => none
  | some (r, rest) =>
    let c := cueAtBytes r
    ensure (cueInRange c && clampCue c == c) (cueOf c, rest)

/-- A snapshot record: in range, its levels too (R107). -/
def readSnapshotRecord (b : List Byte) : Option ((Nat × List SnapEntry) × List Byte) :=
  match takeBytes (2 + 4 * natAt b 1 1) b with
  | none => none
  | some (r, rest) =>
    let entries := entriesAt r 2 (natAt r 1 1)
    ensure (snapshotInRange (natAt r 0 1) entries && clampEntries entries == entries)
      ((natAt r 0 1, entries), rest)

/-- A directory record with present set, in range (R107). -/
def readDirectoryRecord (capacity : Nat) (b : List Byte) : Option ((Nat × DirEntry) × List Byte) :=
  match takeBytes 23 b with
  | none => none
  | some (r, rest) =>
    let d := directoryAt r
    ensure (d.present == 1 && directoryInRange capacity (natAt r 0 2) d) ((natAt r 0 2, entryOf d), rest)

/-- A numbered body of a fixed length, with a check of its number and contents (R107). -/
def readNumbered {α : Type} (length : Nat) (of : List Byte → α) (ok : Nat → α → Bool) (b : List Byte) :
    Option ((Nat × α) × List Byte) :=
  match takeBytes length b with
  | none => none
  | some (r, rest) => ensure (ok (natAt r 0 1) (of r)) ((natAt r 0 1, of r), rest)

/-- Numbered bodies stand in order, from 1. -/
def inOrder {α : Type} (xs : List (Nat × α)) : Bool := xs.map (·.1) == List.range' 1 xs.length

/-- A zone's body that SET ZONE would take without clamping (R107, R146). -/
def zoneSound (n : Nat) (b : ZoneBody) : Bool := zoneInRange n b && clampZone b == b

/-- A governor's body that SET GOVERNOR would take without clamping (R107, R124). -/
def governorSound (n : Nat) (b : GovernorBody) : Bool := governorInRange n b && (govSettingsOf b).body == b

/-- A line's body that SET LINE would take without clamping (R107, R165). -/
def lineSound (n : Nat) (b : LineBody) : Bool := lineInRange n b && clampLine b == b

/-- A paging body that SET PAGING would take without clamping (R107, R147). -/
def pagingSound (b : PagingBody) : Bool := pagingInRange b && (pagingSettingsOf b).body == b

/-- A stop body that SET STOP would take without clamping (R107, R159). -/
def stopSound (b : StopBody) : Bool := stopInRange b && (stopSettingsOf b).body == b

/-- A bus master of the file (R107). -/
def readMaster (b : List Byte) : Option (Level × List Byte) :=
  match takeBytes 2 b with
  | none => none
  | some (r, rest) => ensure (clampLevel (levelAt r 0) == levelAt r 0) (levelAt r 0, rest)

/-- Cue numbers strictly rise (R107). -/
def cuesRising : List Cue → Bool
  | [] => true
  | c :: rest =>
    (match rest with
      | [] => true
      | d :: _ => c.number.lt d.number) && cuesRising rest

/-- The variable parts keep the limits of the part (R26, R27, R33, R95, R107). -/
def tablesSound (cues : List Cue) (snapshots : Sparse (List SnapEntry)) (directory : Sparse DirEntry) : Bool :=
  decide (cues.length ≤ 512) && cuesRising cues && decide ((cues.map fun c => c.actions.length).sum ≤ 4096)
    && sparseRising none snapshots && decide ((snapshots.map fun e => e.2.length).sum ≤ 4096)
    && sparseRising none directory

/-- The tables and settings a file holds, when its contents break no limit of the part (R107). -/
def readShow (capacity : Nat) (file : List Byte) : Option ShowData := do
  let (r, b) ← takeBytes 3 ((file.take (file.length - 2)).drop 15)
  let (cues, b) ← readMany readCueRecord (natAt file 10 2) b
  let (snapshots, b) ← readMany readSnapshotRecord (natAt file 12 1) b
  let (directory, b) ← readMany (readDirectoryRecord capacity) (natAt file 13 2) b
  let (zones, b) ← readMany (readNumbered 9 zoneAt zoneSound) 24 b
  let (p, b) ← takeBytes 8 b
  let (governors, b) ← readMany (readNumbered 14 governorAt governorSound) 12 b
  let (masters, b) ← readMany readMaster 25 b
  let (h, b) ← takeBytes 4 b
  let (lines, b) ← readMany (readNumbered 4 lineAt lineSound) 4 b
  let (st, b) ← takeBytes 12 b
  ensure
    (within 0 1 (natAt r 0 1) && within 0 2000 (natAt r 1 2) && tablesSound cues snapshots directory
      && inOrder zones && inOrder governors && inOrder lines && pagingSound (pagingAt p)
      && within 0 60000 (natAt h 0 4) && stopSound (stopAt st) && b.isEmpty)
    { skipCut := natAt r 0 1 == 1, lockout := natAt r 1 2, cues, snapshots, directory
      zones := zones.map (·.2), paging := pagingAt p, governors := governors.map (·.2), masters
      holdTime := natAt h 0 4, lines := lines.map (·.2), stop := stopAt st }

/-! ### The completion step (R108) -/

/-- `f` done with each body of a list and its number, from `n` on. -/
def eachNumbered {α : Type} (f : Nat → α → State → State) : Nat → List α → State → State
  | _, [], s => s
  | n, b :: rest, s => eachNumbered f (n + 1) rest (f n b s)

/-- Order 1: the cue store's tables, report and flags (R108, R45). -/
def loadCueStore (d : ShowData) (s : State) : State :=
  s.withCst { s.cst with
    cues := d.cues, snapshots := d.snapshots, report := {}, lastRecalled := none
    recalledSinceRead := false, clean := false }

/-- Order 3: the running entries end early, and SEQ takes its settings (R108, R70). -/
def loadSequencer (d : ShowData) (s : State) : State :=
  let s1 := endEntriesEarly s.seq.entries s
  s1.withSeq { s1.seq with skipCut := d.skipCut, lockoutSetting := d.lockout }

/-- Order 4: the directory rule on every LOADING or READY player, and the hold time (R108, R90). -/
def loadPlayers (d : ShowData) (s : State) : State :=
  setHoldTime d.holdTime (forEach 1 8 directoryChangedOn s)

/-- Order 6: the settings of FBG, RPU, TMU and HSU, and the call voice's directory rule (R108, R127, R145, R165, R161). Within
RPU: zones, then paging settings, then the call voice (log entry 38). -/
def loadSettings (d : ShowData) (s : State) : State :=
  let s1 := eachNumbered (fun n b => applyGovSettings n (govSettingsOf b)) 1 d.governors s
  let s2 := voiceDirectoryChanged (applyPaging d.paging (eachNumbered applyZone 1 d.zones s1))
  applyStop d.stop (eachNumbered applyLine 1 d.lines s2)

/-- The show replaced in the blocks' order, up to SEQ's report of the new standby (R108, orders 1 to 7). -/
def installShow (d : ShowData) (s : State) : State :=
  let s1 := loadCueStore d s
  let s2 := loadSequencer d (s1.withCmc { s1.cmc with directory := d.directory })
  let s3 := eachNumbered setMaster 1 d.masters (loadPlayers d s2)
  standbyAfterLoad (loadSettings d s3)

/-- A load's result: the file's length and show, or the cause of its failure (R107). -/
inductive LoadResult where
  | loaded (length : Nat) (d : ShowData)
  | failed (cause : OpCause)

/-- The show a load leaves: the file's, or the empty one (R108). -/
def LoadResult.show_ : LoadResult → ShowData
  | .loaded _ d => d
  | .failed _ => ShowData.default

/-- After order 8 of the start-up load: snapshot 0 applied to the crosspoints, and where the loaded show holds none every
master 0 (R25, R108; log entry 40). -/
def startMatrix (s : State) : State :=
  match sparseFind s.cst.snapshots 0 with
  | none => s.withMix { s.mix with masters := [] }
  | some _ => applyPreset s

/-- The completion step of a show load, and after it at start-up the matrix set from snapshot 0 (R108, R25). -/
def completeLoad (startUp : Bool) (r : LoadResult) (s : State) : State :=
  let s1 := installShow r.show_ s
  let s2 :=
    match r with
    | .loaded length _ =>
      opOk .load length (s1.withCmc { s1.cmc with storedValid := true })
    | .failed cause => opFailed .load cause 0 (s1.withCmc { s1.cmc with storedValid := false })
  if startUp then startMatrix s2 else s2

end Sys2Proof.Machine
end

