-- ==== Sys2Proof/Machine/Memory.lean ====
section
/-!
DEFINITION. The clip memory controller's transfers: the arbiter (R98, R99), the ends of a transfer with what they bring to the
flash, the clients and the operation in the slot (R97, R100 to R107), and the settling of a step.
-/

namespace Sys2Proof.Machine

/-! ### What the clients want (R98) -/

/-- The block of a clip as a transfer's extent (R74, R94). -/
def blockOf (e : DirEntry) (k : Nat) : Extent := .blockRead (e.firstPage + 4 * k)

/-- Page `p` of a file, filled up with FFh to a whole page (R106). -/
def filePage (file : List Byte) (p : Nat) : List Byte :=
  ((file.drop (1024 * p)).take 1024 ++ List.replicate 1024 erased).take 1024

/-- The next transfer of the operation in the slot, if it is a link operation (R98, R101 to R107). -/
def operationWants : Operation → Option Extent
  | .writePage page data readBack => some (if readBack then .pageRead page else .pageProgram page data)
  | .eraseSector sector => some (.sectorErase sector)
  | .verifyClip _ copy block _ => some (blockOf copy block)
  | .saveShow file phase =>
    match phase with
    | .erase sector => some (.sectorErase sector)
    | .program page => some (.pageProgram page (filePage file page))
    | .readBack block _ => some (.blockRead (4 * block))
  | .load _ phase =>
    match phase with
    | .header => some (.blockRead 0)
    | .check block _ _ => some (.blockRead (4 * block))
    | .build block _ _ => some (.blockRead (4 * block))
  | .preflight _ _ => none

/-- The link class's waiting transfer: the operation's next one, or the page read of a READ PAGE in hand (R98, R103). -/
def linkWants (s : State) : Option Extent :=
  match s.cmc.slot with
  | some o => operationWants o
  | none => s.clink.inHand.map fun h => .pageRead h.page

/-- The verify class's waiting transfer: the next block of the clip the preflight reads (R41, R98). -/
def verifyWants (s : State) : Option Extent :=
  match s.cmc.slot with
  | some (.preflight _ w) => w.reading.map fun r => blockOf r.2.1 r.2.2.1
  | _ => none

/-- The block player `n` wants, as an extent with its number (R98). -/
def playerWants (s : State) (n : Nat) : Option (Extent × Nat) :=
  match (playerOf s n).wantsBlock, (playerOf s n).copy with
  | some k, some e => some (blockOf e k, k)
  | _, _ => none

/-- The block the call voice wants, as an extent with its number (R98, R144). -/
def voiceWants (s : State) : Option (Extent × Nat) :=
  match s.rpu.voice.wantsBlock, s.rpu.voice.copy with
  | some k, some e => some (blockOf e k, k)
  | _, _ => none

/-! ### The arbiter (R98, R99) -/

/-- A playback client that wants a block: its buffer's fill, itself, the extent and the block number. -/
structure Wish where
  fill : Nat
  client : Client
  extent : Extent
  block : Nat
  deriving DecidableEq, Repr

/-- The playback clients that want a block: the call voice first, then the players by number (R98). -/
def wishes (s : State) : List Wish :=
  (match voiceWants s with
    | some w => [⟨s.rpu.voice.buffer.length, .voice, w.1, w.2⟩]
    | none => [])
  ++ (List.range' 1 8).filterMap fun n =>
      (playerWants s n).map fun w => ⟨(playerOf s n).buffer.length, .player n, w.1, w.2⟩

/-- Of some wishes the one with the emptiest buffer, the first among equals (R98). -/
def fewest : List Wish → Option Wish
  | [] => none
  | w :: rest =>
    match fewest rest with
    | none => some w
    | some v => if w.fill ≤ v.fill then some w else some v

/-- Whether any player is PLAYING or the call voice is not idle (R99). -/
def playbackOn (s : State) : Bool :=
  (List.range' 1 8).any (fun n => (playerOf s n).state == .playing) || s.rpu.voice.state != .idle

/-- A link transfer is eligible: a read always, a program or erase while nothing plays (R99). -/
def eligibleLink (s : State) : Extent → Bool
  | .blockRead _ => true
  | .pageRead _ => true
  | .pageProgram _ _ => !playbackOn s
  | .sectorErase _ => !playbackOn s

/-- A transfer granted (R97). -/
def grant (client : Client) (extent : Extent) (block : Nat) (s : State) : State :=
  s.withCmc { s.cmc with transfer := some ⟨client, extent, block, 0, true⟩ }

/-- A link transfer granted: the link wait count returns to 0, and the first erase of a save makes the stored show INVALID
(R98, R106). -/
def grantLink (extent : Extent) (s : State) : State :=
  let s1 := grant .link extent 0 s
  s1.withCmc { s1.cmc with
    linkWait := 0
    storedValid := if saving s = true ∧ extent = .sectorErase 0 then false else s1.cmc.storedValid }

/-- A playback block read granted; a link transfer that waits counts it (R98). -/
def grantPlayback (w : Wish) (s : State) : State :=
  let s1 := grant w.client w.extent w.block s
  if (linkWants s).isSome then s1.withCmc { s1.cmc with linkWait := s1.cmc.linkWait + 1 } else s1

/-- The eligible link transfer that waits, if any (R98, R99). -/
def linkReady (s : State) : Option Extent := (linkWants s).filter (eligibleLink s)

/-- The choice at a decision, the link being idle (R98). Clients that come to want a transfer together are chosen from by the
same order (log entry 35). -/
def decideGrant (s : State) : State :=
  match linkReady s, fewest (wishes s) with
  | some e, some w => if 8 ≤ s.cmc.linkWait then grantLink e s else grantPlayback w s
  | some e, none => grantLink e s
  | none, some w => grantPlayback w s
  | none, none =>
    match verifyWants s with
    | some e => grant .verify e 0 s
    | none => s

/-- The arbiter decides whenever no transfer is in flight (R98). -/
def arbitrate (s : State) : State :=
  match s.cmc.transfer with
  | some _ => s
  | none => decideGrant s

/-! ### The settling of a step -/

/-- What every command ends with: SEQ takes the consequences of completions (R62 to R64), and the arbiter grants what has come
to be wanted (R98). -/
def settle (s : State) : State := arbitrate (settleSeq s)

/-! ### Limits and faults (R97) -/

/-- A transfer's time limit in milliseconds (R97). -/
def Extent.limit : Extent → Nat
  | .blockRead _ => 2
  | .pageRead _ => 1
  | .pageProgram _ _ => 5
  | .sectorErase _ => 3000

/-- A transfer kind's number in MEMORY_FAULT (R187). -/
def Extent.number : Extent → Nat
  | .blockRead _ => 0
  | .pageRead _ => 1
  | .pageProgram _ _ => 2
  | .sectorErase _ => 3

/-- The page or sector of a transfer (R97). Of a block read it is the first of the block's four pages: the model's choice (log
entry 46). -/
def Extent.place : Extent → Nat
  | .blockRead p => p
  | .pageRead p => p
  | .pageProgram p _ => p
  | .sectorErase k => k

/-- Whether a transfer is a playback read (R97). -/
def Client.isPlayback : Client → Bool
  | .player _ => true
  | .voice => true
  | .link => false
  | .verify => false

/-- MEMORY_FAULT with source 0 for a memory error on a transfer that is not a playback read; the cause is a status failure 0 or
the time limit 1 (R97). -/
def raiseTransferFault (t : Transfer) (cause : Nat) (s : State) : State :=
  if t.client.isPlayback then s
  else
    raiseEvent .memoryFault 0 (bytesOf 1 t.extent.number ++ bytesOf 1 cause ++ bytesOf 4 t.extent.place) s

/-! ### What a transfer brings to the flash (R93, R101, R102) -/

/-- The flash after a transfer that has ended well (R93). -/
def flashAfter (m : List Host.Cell) : Extent → List Host.Cell
  | .blockRead _ => m
  | .pageRead _ => m
  | .pageProgram page data => flashProgram m page data
  | .sectorErase sector => flashErase m sector

/-- The flash after a program or an erase that has failed: free bytes where it worked (R101, R102; log entry 6). -/
def flashAfterError (draw : Nat) (m : List Host.Cell) : Extent → List Host.Cell
  | .blockRead _ => m
  | .pageRead _ => m
  | .pageProgram page _ =>
    flashStore (fun _ b => b) m (page * 1024) (freeBytes draw (page * 1024) 1024)
  | .sectorErase sector =>
    flashStore (fun _ b => b) m (sector * 65536) (freeBytes draw (sector * 65536) 65536)

/-- The flash after a program or an erase that a reset interrupted: each bit as before or as the work would have left it, which
of the two being free (R110; log entry 6). -/
def flashInterrupted (draw : Nat) (m : List Host.Cell) : Extent → List Host.Cell
  | .blockRead _ => m
  | .pageRead _ => m
  | .pageProgram page data =>
    flashStore (fun was b => was &&& b) m (page * 1024)
      (List.zipWith (fun d f => d ||| f) data (freeBytes draw (page * 1024) data.length))
  | .sectorErase sector =>
    flashStore (fun was b => was ||| b) m (sector * 65536) (freeBytes draw (sector * 65536) 65536)

/-- The flash replaced. -/
def setFlash (m : List Host.Cell) (s : State) : State := s.withCmc { s.cmc with flash := m }

/-- Whether an extent changes the flash. -/
def Extent.writes : Extent → Bool
  | .blockRead _ => false
  | .pageRead _ => false
  | .pageProgram _ _ => true
  | .sectorErase _ => true

/-- A failed program or erase leaves free bytes, drawn afresh (log entry 6). -/
def spoilFlash (x : Extent) (s : State) : State :=
  if x.writes then
    let s1 := setFlash (flashAfterError s.draws s.cmc.flash x) s
    { s1 with draws := s1.draws + 1 }
  else s

/-- The bytes a read brings (R97). -/
def bytesRead (m : List Host.Cell) : Extent → List Byte
  | .blockRead page => flashRead m (page * 1024) 4096
  | .pageRead page => flashRead m (page * 1024) 1024
  | .pageProgram _ _ => []
  | .sectorErase _ => []

/-! ### The operations move on (R101 to R107) -/

/-- A page of a file that differs from what was read back, the first one (R106). -/
def firstDiffering (file read : List Byte) : Nat :=
  (((List.range ((file.length + 1023) / 1024)).find? fun p =>
    decide ((file.drop (1024 * p)).take 1024 ≠ ((read.take file.length).drop (1024 * p)).take 1024))).getD 0

/-- Pages of a file (R106). -/
def pagesOf (file : List Byte) : Nat := (file.length + 1023) / 1024

/-- Blocks that hold a number of bytes. -/
def blocksFor (length : Nat) : Nat := (length + 4095) / 4096

/-- The save's read-back is complete: VALID when the CRC and every byte agree (R106). -/
def judgeSave (file read : List Byte) (s : State) : State :=
  if fileCrcGood (read.take file.length) = true ∧ read.take file.length = file then
    opOk .saveShow file.length (s.withCmc { s.cmc with storedValid := true })
  else opFailed .saveShow .verify (firstDiffering file read) s

/-- A save moves on after a transfer that has ended well (R106). -/
def advanceSave (file : List Byte) (data : List Byte) (phase : SavePhase) (s : State) : State :=
  match phase with
  | .erase k =>
    setSlot (some (.saveShow file (if k < 15 then .erase (k + 1) else .program 0))) s
  | .program p =>
    setSlot (some (.saveShow file (if p + 1 < pagesOf file then .program (p + 1) else .readBack 0 []))) s
  | .readBack b read =>
    if b + 1 < (pagesOf file + 3) / 4 then
      setSlot (some (.saveShow file (.readBack (b + 1) (read ++ data)))) s
    else judgeSave file (read ++ data) s

/-- A load moves on after a block that has been read (R107). -/
def advanceLoad (startUp : Bool) (data : List Byte) (phase : LoadPhase) (s : State) : State :=
  match phase with
  | .header =>
    match examineHeader data with
    | .inl cause => completeLoad startUp (.failed cause) s
    | .inr length => setSlot (some (.load startUp (.check 0 length []))) s
  | .check b length read =>
    if b + 1 < blocksFor length then
      setSlot (some (.load startUp (.check (b + 1) length (read ++ data)))) s
    else if fileCrcGood ((read ++ data).take length) then
      setSlot (some (.load startUp (.build 0 length []))) s
    else completeLoad startUp (.failed .crc) s
  | .build b length read =>
    if b + 1 < blocksFor length then
      setSlot (some (.load startUp (.build (b + 1) length (read ++ data)))) s
    else
      match readShow s.cmc.capacity ((read ++ data).take length) with
      | some d => completeLoad startUp (.loaded length d) s
      | none => completeLoad startUp (.failed .format) s

/-- A verified clip's block has been read: the CRC carried on, and the finding after the last block: MATCH 0 or MISMATCH 1, with
the clip id and the CRC formed (R104). -/
def advanceVerify (clip : Nat) (copy : DirEntry) (block : Nat) (crc : BitVec 16) (data : List Byte) (s : State) : State :=
  let formed := crcOverBlock copy block crc data
  if block + 1 < copy.blocks then setSlot (some (.verifyClip clip copy (block + 1) formed)) s
  else
    endOperation .verifyClip 0 (if formed = copy.crc then 0 else 1)
      (bytesOf 2 clip ++ bytesOf 2 formed.toNat) s

/-- The operation in the slot moves on after its transfer has ended well, with what was read (R101 to R107). -/
def advanceOperation (o : Operation) (data : List Byte) (s : State) : State :=
  match o with
  | .writePage page held readBack =>
    if readBack then
      (if data = held then opOk .writePage page s else opFailed .writePage .verify page s)
    else setSlot (some (.writePage page held true)) s
  | .eraseSector sector => opOk .eraseSector sector s
  | .verifyClip clip copy block crc => advanceVerify clip copy block crc data s
  | .saveShow file phase => advanceSave file data phase s
  | .load startUp phase => advanceLoad startUp data phase s
  | .preflight _ _ => s

/-- The operation in the slot fails on a memory error of its transfer, at the page or sector given (R101 to R107). -/
def failOperation (o : Operation) (place : Nat) (s : State) : State :=
  match o with
  | .writePage page _ _ => opFailed .writePage .memory page s
  | .eraseSector sector => opFailed .eraseSector .memory sector s
  | .verifyClip clip _ _ _ => endOperation .verifyClip 1 OpCause.memory.number (bytesOf 2 clip) s
  | .saveShow _ _ => opFailed .saveShow .memory place s
  | .load startUp _ => completeLoad startUp (.failed .memory) s
  | .preflight _ _ => s

/-- The reply of a READ PAGE: GOOD 0 with the page's bytes, or READ_ERROR 1 (R103). -/
def readPageReply (tag : Nat) (data : Option (List Byte)) : Reply where
  code := 0x49
  tag := tag
  status := .ok
  contents :=
    match data with
    | some bytes => [.u8 0, .bytes bytes]
    | none => [.u8 1]

/-- The READ PAGE in hand is answered: its reply joins the reply queue and the request leaves hand (R103, R179). -/
def answerReadPage (data : Option (List Byte)) (s : State) : State :=
  match s.clink.inHand with
  | none => s
  | some h =>
    s.withClink { s.clink with
      inHand := none, replies := s.clink.replies ++ [readPageReply h.tag data] }

/-- A link transfer's end brought to the operation or to the READ PAGE it serves (R97). -/
def endLinkTransfer (place : Nat) (data : Option (List Byte)) (s : State) : State :=
  match s.cmc.slot with
  | none => answerReadPage data s
  | some o =>
    match data with
    | some bytes => advanceOperation o bytes s
    | none => failOperation o place s

/-- A transfer's end brought to its client, when it is still wanted: with what was read, or as a memory error (R97). The read
error of a transfer no longer wanted is neither counted nor raised (log entry 34). -/
def deliverTransfer (t : Transfer) (data : Option (List Byte)) (s : State) : State :=
  if t.wanted then
    match t.client with
    | .player n => playerBlock n t.block data s
    | .voice => voiceBlock t.block data s
    | .link => endLinkTransfer t.extent.place data s
    | .verify =>
      match data with
      | some bytes => walkBlock bytes s
      | none => walkError s
  else s

/-- What the end of a transfer has made due: pending plays and the call voice start (R79, R139). -/
def startsDue (s : State) : State := callVoiceStart (forEach 1 8 playStart s)

/-- The memory link idle again. -/
def freeTransfer (s : State) : State := s.withCmc { s.cmc with transfer := none }

/-- The transfer in flight ends well (R97). -/
def transferDone (t : Transfer) (s : State) : State :=
  let s1 := setFlash (flashAfter s.cmc.flash t.extent) (freeTransfer s)
  deliverTransfer t (some (bytesRead s1.cmc.flash t.extent)) s1

/-- The transfer in flight ends as a memory error of a cause: status failure 0 or time limit 1 (R97). -/
def transferFailed (t : Transfer) (cause : Nat) (s : State) : State :=
  deliverTransfer t none (raiseTransferFault t cause (spoilFlash t.extent (freeTransfer s)))

/-- The transfer in flight ends, well or with a status failure; with a capacity of 0 every transfer fails (R93, R97). -/
def transferEnd (failed : Bool) (s : State) : State :=
  match s.cmc.transfer with
  | none => s
  | some t => if failed = true ∨ s.cmc.capacity = 0 then transferFailed t 0 s else transferDone t s

/-- Whether the transfer in flight has reached its time limit (R97). -/
def transferLate (s : State) : Bool :=
  match s.cmc.transfer with
  | none => false
  | some t => decide (t.extent.limit ≤ t.elapsed)

/-- The transfer in flight, not complete within its limit, ends as a memory error; any other is left alone (R97). -/
def transferTimeOut (s : State) : State :=
  match s.cmc.transfer with
  | none => s
  | some t => if transferLate s then transferFailed t 1 s else s

/-- The transfer in flight, not complete when its limit has certainly passed, its grant lying inside a millisecond, ends as a
memory error (R97; log entry 14). -/
def transferOverdue (s : State) : State :=
  match s.cmc.transfer with
  | none => s
  | some t => if t.extent.limit < t.elapsed then transferFailed t 1 s else s

/-- A millisecond boundary counted against the transfer in flight (R97). -/
def countTransfer (s : State) : State :=
  s.withCmc { s.cmc with transfer := s.cmc.transfer.map fun t => { t with elapsed := t.elapsed + 1 } }

end Sys2Proof.Machine
end

