-- ==== Sys2Proof/Machine/Replies.lean ====
section
/-!
DEFINITION. The reports that replies carry, field by field in the order their rules list them, at the widths of R187. A thing
that may be absent is a byte 0, or a byte 1 and its fields (log entry 10).
-/

namespace Sys2Proof.Machine

/-- A thing that may be absent: 0, or 1 and its fields (log entry 10). -/
def optionFields {α : Type} (fields : α → List Field) : Option α → List Field
  | none => [.u8 0]
  | some x => .u8 1 :: fields x

/-- A list, its count first in one byte (R187). -/
def listFields {α : Type} (fields : α → List Field) (xs : List α) : List Field :=
  .u8 xs.length :: xs.flatMap fields

/-! ### Enumerated values in replies (R187) -/

/-- The show state: SETUP 0, SHOW 1 (R46). -/
def ShowState.number : ShowState → Nat
  | .setup => 0
  | .inShow => 1

/-- The report's status: NONE, RUNNING, COMPLETE, ABORTED, FAILED (R44). -/
def ReportStatus.number : ReportStatus → Nat
  | .none => 0
  | .running => 1
  | .complete => 2
  | .aborted => 3
  | .failed => 4

/-- The fault kinds in the order of R40 and R42. -/
def FaultKind.number : FaultKind → Nat
  | .missingSnapshot => 0
  | .missingClip => 1
  | .badClipCrc => 2
  | .emptyTarget => 3
  | .followAtEnd => 4

/-- The phases of an entry: PREWAIT, ACTIVE, DONE (R59). -/
def Phase.number : Phase → Nat
  | .prewait => 0
  | .active => 1
  | .done => 2

/-- An action's state: UNFIRED, OUTSTANDING, COMPLETE (R59). -/
def ActionState.number : ActionState → Nat
  | .unfired => 0
  | .outstanding => 1
  | .complete => 2

/-- The follow outcomes: NONE, PENDING, FIRED, PASSED, REFUSED, DROPPED (R59). -/
def FollowOutcome.number : FollowOutcome → Nat
  | .none => 0
  | .pending => 1
  | .fired => 2
  | .passed => 3
  | .refused => 4
  | .dropped => 5

/-- The postwait's state and its remaining: ABSENT, WAITING, RUNNING with remaining, ENDED (R59). -/
def postwaitFields : Postwait → List Field
  | .absent => [.u8 0]
  | .waiting => [.u8 1]
  | .running r => [.u8 2, .u32 r]
  | .ended => [.u8 3]

/-- The kinds of a fade's owner: NONE, CUE, RECALL (01, The fade-slot table). -/
def FadeOwner.number : FadeOwner → Nat
  | .none => 0
  | .cue _ => 1
  | .recall _ _ => 2

/-- A player's state and its detail: IDLE, LOADING, READY, PLAYING, PAUSED, RELEASING; PRELOAD or HOLD, STOP or RETRIGGER, the
state paused from (R72). The detail byte of a state that has no detail is 0 (log entry 33). -/
def playerStateFields : PlayerState → List Field
  | .idle => [.u8 0, .u8 0]
  | .loading => [.u8 1, .u8 0]
  | .readyPreload => [.u8 2, .u8 0]
  | .readyHold => [.u8 2, .u8 1]
  | .playing => [.u8 3, .u8 0]
  | .pausedPlaying => [.u8 4, .u8 0]
  | .pausedReleasing => [.u8 4, .u8 1]
  | .releasingStop => [.u8 5, .u8 0]
  | .releasingRetrigger => [.u8 5, .u8 1]

/-- A governor's state: OFF, GATED, HUNTING, CONVERGED, FROZEN, STALLED (R113). -/
def GovState.number : GovState → Nat
  | .off => 0
  | .gated => 1
  | .hunting => 2
  | .converged => 3
  | .frozen => 4
  | .stalled => 5

/-- A governor's gated from: HUNTING, CONVERGED, STALLED (R113). No governor is gated from another state. -/
def GovState.gatedNumber : GovState → Nat
  | .hunting | .off | .gated | .frozen => 0
  | .converged => 1
  | .stalled => 2

/-- The call voice's state: IDLE, LOADING, PLAYING (R144). -/
def VoiceState.number : VoiceState → Nat
  | .idle => 0
  | .loading => 1
  | .playing => 2

/-- A page's origin: LINK, LINE, ACTION, TIMER, STOP (R133). -/
def originField (o : PageOrigin) : Field := .u8 (o.number - 1)

/-- A debouncer's state: RELEASED, ASSERTED, BLOCKED; one that no sample has decided yet is reported BLOCKED (R174). -/
def LineState.number : LineState → Nat
  | .released => 0
  | .asserted => 1
  | .blocked => 2
  | .undecided => 2

/-- A call timer's state: DISARMED, ARMED, FIRED (R168). -/
def TimerState.number : TimerState → Nat
  | .disarmed => 0
  | .armed => 1
  | .fired => 2

/-- The lamp's state: OFF, FLASHING, STEADY (R173). -/
def Lamp.number : Lamp → Nat
  | .off => 0
  | .flashing _ => 1
  | .steady => 2

/-! ### Shared records -/

/-- The fields of an entry's slot and an action index (R72). -/
def ownerFields (o : Owner) : List Field := [.u8 o.slot, .u8 o.index]

/-- The fields of a clip copy (R72, R144). -/
def copyFields (e : DirEntry) : List Field :=
  [.u32 e.firstPage, .u32 e.length, .u8 e.channels]
    ++ optionFields (fun l : Nat × Nat => [.u32 l.1, .u32 l.2]) e.loop

/-- The block numbers of a buffer (R72, R144). -/
def bufferFields (b : List Block) : List Field := listFields (fun x => [.u32 x.number]) b

/-- A duck's value and envelope: settled, or running with start, target, time and elapsed (R149, R160). Elapsed is sent in 32
bits, like the time it counts toward (log entry 23). -/
def duckFields (d : Duck) : List Field :=
  .level d.value
    :: optionFields (fun r : Running => [.level r.start, .level r.target, .u32 r.time, .u32 r.elapsed]) d.run

/-- The recall status (R37). -/
def recallFields (s : State) : List Field :=
  optionFields (fun id : Nat => [.u8 id]) s.cst.lastRecalled
    ++ [flagField (recallBusy s), flagField s.cst.recalledSinceRead]

/-- The sample-clock state, LOCKED 0 or FREE 1, and whether the word clock is present (R174, R181). -/
def sampleClockFields (s : State) : List Field :=
  [.u8 (if s.tmu.locked then 0 else 1), flagField s.tmu.present]

/-- The show clock (R162). -/
def clockField (s : State) : Field := .u32 s.tmu.clock.toNat

/-! ### IDENTIFY and STATUS (R181) -/

/-- IDENTIFY's contents: part code, revision, format version, capacity, link rate (R181). -/
def identifyReport (s : State) : List Field :=
  [.u16 0x4820, .u8 1, .u16 formatVersion, .u32 s.cmc.capacity, .u8 s.clink.rate]

/-- The kind of an operation (R100). -/
def operationKind : Operation → OpKind
  | .writePage _ _ _ => .writePage
  | .eraseSector _ => .eraseSector
  | .verifyClip _ _ _ _ => .verifyClip
  | .saveShow _ _ => .saveShow
  | .load _ _ => .load
  | .preflight _ _ => .preflight

/-- A load's progress in blocks (R181). -/
def loadProgress : LoadPhase → Nat
  | .header => 0
  | .check b _ _ => b
  | .build b _ _ => b

/-- An operation's progress in pages or blocks (R100). That of a preflight is the block of the clip being read, else 0, and
that of ERASE SECTOR is 0 (log entry 21). -/
def operationProgress : Operation → Nat
  | .writePage _ _ readBack => flagNumber readBack
  | .eraseSector _ => 0
  | .verifyClip _ _ block _ => block
  | .saveShow _ phase =>
    match phase with
    | .erase k => 64 * k
    | .program p => p
    | .readBack b _ => b
  | .load _ phase => loadProgress phase
  | .preflight _ w =>
    match w.reading with
    | none => 0
    | some r => r.2.2.1

/-- The show load's progress, 0 when none is in progress (R181). -/
def progressOfLoad (s : State) : Nat :=
  match s.cmc.slot with
  | some (.load _ phase) => loadProgress phase
  | _ => 0

/-- STATUS's contents (R181). R187 does not say the width of a progress: the load's and the operation's have 32 bits, the
model's choice (log entry 23). -/
def statusReport (s : State) : List Field :=
  [flagField (loading s), .u32 (progressOfLoad s), .u8 s.seq.showState.number]
    ++ cueFields (standbyNumber s)
    ++ [.u16 s.seq.entries.length, flagField s.hsu.holdEffective, flagField s.hsu.stopActive,
        flagField s.cst.clean, .u8 s.cst.report.status.number]
    ++ recallFields s
    ++ optionFields (fun o => [.u8 (operationKind o).number, .u32 (operationProgress o)]) s.cmc.slot
    ++ [.u8 (if s.cmc.storedValid then 0 else 1)]
    ++ sampleClockFields s
    ++ [clockField s, .u24 s.evr.mask.toNat, .u16 s.evr.slots.length, .u16 s.clink.errors]

/-! ### Sequencer and cue store (R32, R35, R44, R66) -/

/-- An entry of the running-cue table (R59, R66). -/
def runningFields (s : State) (slot : Nat) (e : Entry) : List Field :=
  [.u8 slot, .u16 ((cueIndex s e.cue.number).getD 0)] ++ cueFields (some e.cue.number)
    ++ [.u8 e.origin.number, .u8 e.phase.number, .u32 e.prewait, .u32 e.elapsed]
    ++ listFields (fun a : ActionState => [.u8 a.number]) e.states
    ++ [.u16 e.outstanding] ++ postwaitFields e.postwait ++ cueFields e.followTarget ++ [.u8 e.outcome.number]

/-- READ RUNNING's contents (R66). The lockout remaining is a time of 32 bits; the lockout of SET SEQUENCER has 16 (R187). -/
def runningReport (s : State) : List Field :=
  .u8 s.seq.showState.number :: cueFields (standbyNumber s)
    ++ [flagField s.seq.skipCut, .u16 s.seq.lockoutSetting, .u32 s.seq.lockout, flagField s.hsu.holdEffective]
    ++ listFields (fun e => runningFields s e.1 e.2) s.seq.entries

/-- READ CUE's contents: the record and its index (R32). -/
def cueReport (index : Nat) (c : Cue) : List Field := [.bytes (cueBodyBytes c.body), .u16 index]

/-- A cue's summary (R32). -/
def summaryFields (c : Cue) : List Field :=
  cueFields (some c.number) ++ [flagField c.cut, .u8 c.follow.number, .u8 c.actions.length]

/-- LIST CUES's contents from a number on: up to 128 summaries, the counts, and whether more follow (R32). -/
def listReport (number : CueNumber) (s : State) : List Field :=
  let from_ := s.cst.cues.filter fun c => number.le c.number
  listFields summaryFields (from_.take 128)
    ++ [.u16 s.cst.cues.length, .u16 (actionPoolFree s), .u16 (entryPoolFree s),
        flagField (decide (128 < from_.length))]

/-- READ SNAPSHOT's contents: the entries and the recall status (R35). -/
def snapshotReport (entries : List SnapEntry) (s : State) : List Field :=
  listFields entryFields entries ++ recallFields s

/-- READ PREFLIGHT's contents (R44). -/
def preflightReport (s : State) : List Field :=
  let r := s.cst.report
  [.u8 r.status.number, flagField r.verify, .u16 r.walked, .u16 r.total]
    ++ listFields (fun f : FaultRecord => cueFields (some f.cue) ++ [.u8 f.action, .u8 f.kind.number]) r.records
    ++ [flagField s.cst.clean]

/-! ### Matrix, governors and players (R10, R22, R72, R91, R126) -/

/-- A fade slot as READ CROSSPOINT reports it (R10). -/
def fadeFields (f : Nat × FadeSlot) : List Field :=
  [.u8 f.1, .level f.2.start, .level f.2.target, .u32 f.2.duration, .u32 f.2.elapsed, .u8 f.2.owner.number]

/-- READ CROSSPOINT's contents (R10). -/
def crosspointReport (source bus : Nat) (s : State) : List Field :=
  [.level (levelOf s source bus), .level (masterOf s bus),
    .u32 (sparseRead {} s.mix.codes (crosspoint source bus)).g1]
    ++ optionFields fadeFields (slotOn s source bus)

/-- READ METERS's contents: the 25 records in bus order (R22). -/
def metersReport (s : State) : List Field :=
  (List.range' 1 25).flatMap fun b => [.level (meterLevel (meterOf s b).peak), .u16 (meterOf s b).clips]

/-- A governor's freeze cause: none 0, HOLD 1, FADE 2, both 3 (R113). -/
def Governor.freezeCause (g : Governor) : Nat := flagNumber g.freezeHold + 2 * flagNumber g.freezeFade

/-- READ GOVERNOR's contents (R126). -/
def governorReport (n : Nat) (s : State) : List Field :=
  let g := governorOf s n
  governorFields g.settings.body
    ++ [flagField g.enable, .level g.target, .u8 g.state.number]
    ++ optionFields (fun f : GovState => [.u8 f.gatedNumber]) g.gatedFrom
    ++ [.level g.trim, .u16 g.inBand, .u16 g.settle, .u16 g.lastSettle, flagField g.rehunt, .u16 g.ceilingCount,
        .level g.lastM, flagField g.discard, .u8 g.freezeCause]

/-- A play that waits (R72). -/
def pendingFields (p : Play) : List Field :=
  [.u16 p.loops, .level p.level, .u32 p.attack] ++ optionFields ownerFields p.owner

/-- A reservation: the cue and its kind, STANDBY 0 or FIRED 1 (R72). -/
def reservationFields (r : Reservation) : List Field := cueFields (some r.cue) ++ [.u8 (flagNumber r.fired)]

/-- READ PLAYER's contents: every field of R72 and the player hold time (R91). -/
def playerReport (n : Nat) (s : State) : List Field :=
  let p := playerOf s n
  playerStateFields p.state
    ++ optionFields (fun c : Nat => [.u16 c]) p.clip ++ optionFields copyFields p.copy
    ++ [.u32 p.position, .u16 p.loops]
    ++ optionFields (fun k : Nat => [.u32 k]) p.fetchNext ++ [.u16 p.fetchLoops]
    ++ bufferFields p.buffer
    ++ [.level p.env.level, .level p.env.start, .level p.env.target, .u32 p.env.elapsed, .u32 p.env.time]
    ++ optionFields pendingFields p.pending ++ optionFields ownerFields p.owner
    ++ optionFields reservationFields p.reservation
    ++ [.u32 (p.holdTimer.getD 0), .u16 p.underruns, .u16 p.lateStart, .u32 s.ply.holdTime]

/-! ### Relay, hold and timing (R149, R160, R170 to R174) -/

/-- READ ZONE's contents (R149). -/
def zoneReport (n : Nat) (s : State) : List Field :=
  let z := zoneOf s n
  zoneFields z.body ++ duckFields z.duck ++ [flagField z.inPage, flagField z.paged, .u16 z.clips]

/-- A page's fields (R133). A zone set is sent as a list, a count and a byte a zone, and the clip id of a LIVE page as 0: the
model's choice (log entry 10). -/
def pageFields (p : Page) : List Field :=
  [.u16 p.number, .u8 p.cls.number, .u8 p.source.number, .u16 p.source.clipOrZero, .u8 p.mask]
    ++ listFields (fun n : Nat => [.u8 n]) p.zones
    ++ [originField p.origin, .u8 (flagNumber p.heldByLine + 2 * flagNumber p.heldByLink), flagField p.replayed]

/-- The active page's fields: its record, its zone set, and for a CLIP page the attack timer remaining (R149). -/
def activeFields (a : ActivePage) : List Field :=
  pageFields a.page ++ listFields (fun n : Nat => [.u8 n]) a.zoneSet
    ++ (match a.page.source with
        | .live => []
        | .clip _ => [.u32 (a.attack.getD 0)])

/-- The call voice's record (R144). -/
def voiceFields (v : Voice) : List Field :=
  [.u8 v.state.number, .u16 v.page, .u16 v.clip] ++ optionFields copyFields v.copy ++ [.u32 v.position]
    ++ optionFields (fun k : Nat => [.u32 k]) v.fetchNext ++ bufferFields v.buffer
    ++ [.u16 v.underruns, .u16 v.lateStart]

/-- READ PAGE QUEUE's contents (R149). -/
def pageQueueReport (s : State) : List Field :=
  pagingFields s.rpu.settings.body ++ [.u16 (freePageNumber s 10 s.rpu.nextNumber)]
    ++ optionFields activeFields s.rpu.active ++ voiceFields s.rpu.voice ++ listFields pageFields s.rpu.queue

/-- The report of the hold and stop unit (R160). -/
def holdReport (s : State) : List Field :=
  let h := s.hsu
  [flagField h.holdLine, flagField h.holdRequest, flagField h.stopLine, flagField h.stopRequest,
      flagField h.holdEffective, flagField h.stopActive]
    ++ duckFields h.duck
    ++ ((List.range' 1 20).flatMap fun b =>
        [.u32 (injectionOf s b).code, flagField (injectionOf s b).ramp.isSome])
    ++ stopFields h.settings.body

/-- READ CLOCK's contents (R174). -/
def clockReport (s : State) : List Field :=
  clockField s :: sampleClockFields s
    ++ ((List.range' 1 4).flatMap fun n =>
        lineFields (lineOf s n).body ++ [.u8 (lineOf s n).state.number, .u16 (lineOf s n).count])
    ++ [.u8 s.tmu.lamp.number]

/-- A call timer as READ TIMERS reports it; the remaining time only of an ARMED one (R170). -/
def timerFields (now : BitVec 32) (t : Timer) : List Field :=
  [.u8 t.state.number, .u32 t.target.toNat] ++ payloadFields t.payload ++ [flagField t.late]
    ++ (if t.state = .armed then [.u32 (t.target - now).toNat] else [])

/-- READ TIMERS's contents (R170). -/
def timersReport (s : State) : List Field :=
  clockField s :: (List.range' 1 8).flatMap fun n => timerFields s.tmu.clock (timerOf s n)

/-- A mark: valid flag, time and cue number (R171). -/
def markFields : Option Mark → List Field
  | none => [flagField false, .u32 0] ++ cueFields none
  | some m => [flagField true, .u32 m.time.toNat] ++ cueFields (some m.cue)

/-- READ MARKS's contents: the 32 records in id order (R171). -/
def marksReport (s : State) : List Field :=
  (List.range 32).flatMap fun id => markFields (sparseFind s.tmu.marks id)

/-- READ GO RECORD's contents: the number of entries and the entries oldest first (R172). -/
def goReport (s : State) : List Field :=
  listFields (fun e : GoEntry =>
    cueFields (some e.cue) ++ [.u32 e.time.toNat, .u8 e.origin.number, .u32 e.interval]) s.tmu.goRecord

/-- TAKE EVENT's contents: the chosen slot and how many stay occupied, or NONE and zeros (R184). -/
def eventReport (s : State) : List Field :=
  match chosenEvent s with
  | none => [.u8 0, .u8 0, .u8 0, .bytes (detailOf []), .u32 0, .u32 0, .u8 0]
  | some (index, e) =>
    [.u8 (index / 32), .u8 (index % 32), .u8 e.count, .bytes e.detail, .u32 e.first.toNat, .u32 e.latest.toNat,
      .u8 (s.evr.slots.length - 1)]

end Sys2Proof.Machine
end

