-- ==== Sys2Proof/Machine/Requests.lean ====
section
/-!
DEFINITION. How each request is decided by its owning block, the control link having handed it over outside a show load: its
checks in their order, its effect, and its reply (R179, R180 and each request's own rule).
-/

namespace Sys2Proof.Machine

/-- A request's answer: status, reply contents, and the state it leaves. -/
structure Answer where
  status : Status
  contents : List Field
  state : State

/-- A refusal, which changes nothing (R180). -/
def refuse (st : Status) (s : State) : Answer := ⟨st, [], s⟩

/-- OK, or OK_CLAMPED when a value was brought into range (R180). -/
def taken (clamped : Bool) (contents : List Field) (s : State) : Answer :=
  ⟨if clamped then .okClamped else .ok, contents, s⟩

/-- OK with a report and no change (R180). -/
def reported (contents : List Field) (s : State) : Answer := ⟨.ok, contents, s⟩

/-- ACCEPTED, the answer of a long operation (R179). -/
def accepted (s : State) : Answer := ⟨.accepted, [], s⟩

/-! ### EVR, IDENTIFY, STATUS, RESET DEVICE (R181, R182, R184, R185) -/

/-- IDENTIFY (R181). -/
def decideIdentify (s : State) : Answer := reported (identifyReport s) s

/-- STATUS, after which recalled-since-read is clear (R181, R37). -/
def decideStatus (s : State) : Answer :=
  ⟨.ok, statusReport s, s.withCst { s.cst with recalledSinceRead := false }⟩

/-- TAKE EVENT: the chosen slot is reported and freed (R184). -/
def decideTakeEvent (s : State) : Answer :=
  ⟨.ok, eventReport s, s.withEvr { s.evr with slots := s.evr.slots.tail }⟩

/-- SET EVENT MASK (R185). -/
def decideSetEventMask (mask : Nat) (s : State) : Answer :=
  if 262144 ≤ mask then refuse .outOfRange s
  else taken false [.u24 mask] (s.withEvr { s.evr with mask := BitVec.ofNat 18 mask })

/-- RESET DEVICE: answered OK, and from then on no item is taken (R182). -/
def decideResetDevice (s : State) : Answer :=
  taken false [] (s.withClink { s.clink with resetTaken := true })

/-! ### SEQ (R46, R50, R56, R57, R66 to R69) -/

/-- ENTER SHOW (R46). -/
def decideEnterShow (s : State) : Answer :=
  if slotOccupied s then refuse .busy s
  else if s.cst.clean = false then refuse .notClean s
  else taken false [] (s.withSeq { s.seq with showState := .inShow })

/-- LEAVE SHOW (R46). -/
def decideLeaveShow (s : State) : Answer := taken false [] (s.withSeq { s.seq with showState := .setup })

/-- RESET SHOW (R68, R69). -/
def decideResetShow (s : State) : Answer :=
  if s.hsu.stopActive then refuse .held s else taken false [] (showReset s)

/-- The status and contents a GO's or a FIRE's outcome is answered with (R50, R53, R55, R56). -/
def goAnswer : GoOutcome → Status × List Field
  | .accepted cue => (.ok, cueFields (some cue))
  | .passed cue => (.cut, cueFields (some cue))
  | .held => (.held, [])
  | .stop => (.stop, [])
  | .lockout => (.lockout, [])
  | .endOfList => (.endOfList, [])
  | .full => (.full, [])
  | .notFound => (.notFound, [])
  | .cut => (.cut, [])

/-- The GO request, a GO of origin LINK (R50). -/
def decideGoRequest (s : State) : Answer :=
  let r := decideGo .link s
  ⟨(goAnswer r.outcome).1, (goAnswer r.outcome).2, finishGo r⟩

/-- FIRE (R56). -/
def decideFireRequest (number : CueNumber) (s : State) : Answer :=
  if cueNumberInRange number then
    let r := decideFire number s
    ⟨(goAnswer r.outcome).1, (goAnswer r.outcome).2, finishGo r⟩
  else refuse .outOfRange s

/-- LOCATE (R57). -/
def decideLocate (number : CueNumber) (mode honourSkip : Nat) (s : State) : Answer :=
  if (cueNumberInRange number && within 0 2 mode && within 0 1 honourSkip) = false then refuse .outOfRange s
  else
    match located s number mode (honourSkip == 1) with
    | none => refuse .notFound s
    | some index =>
      taken false (cueFields ((cueAt s index).map fun c => c.number)) (locateTo index s)

/-- READ RUNNING (R66). -/
def decideReadRunning (s : State) : Answer := reported (runningReport s) s

/-- SET SEQUENCER (R67). -/
def decideSetSequencer (skipCut lockout : Nat) (s : State) : Answer :=
  if inShow s then refuse .locked s
  else if saving s then refuse .busy s
  else if badFlag skipCut then refuse .outOfRange s
  else taken (decide (2000 < lockout)) [] (applySequencer (skipCut == 1) lockout s)

/-! ### CST (R30 to R35, R39, R44) -/

/-- WRITE CUE (R30). -/
def decideWriteCue (b : CueBody) (s : State) : Answer :=
  if inShow s then refuse .locked s
  else if saving s then refuse .busy s
  else if cueInRange b = false then refuse .outOfRange s
  else if (entryRunning s b.number).isSome then refuse .inUse s
  else if (cueIndex s b.number).isNone = true ∧ 512 ≤ s.cst.cues.length then refuse .full s
  else if actionPoolFree s + actionsOf s b.number < b.actions.length then refuse .full s
  else taken (decide (clampCue b ≠ b)) [] (storeCue (cueOf (clampCue b)) s)

/-- READ CUE (R32). -/
def decideReadCue (number : CueNumber) (s : State) : Answer :=
  if cueNumberInRange number = false then refuse .outOfRange s
  else
    match cueIndex s number, cueNamed s number with
    | some i, some c => reported (cueReport i c) s
    | _, _ => refuse .notFound s

/-- DELETE CUE (R31). -/
def decideDeleteCue (number : CueNumber) (s : State) : Answer :=
  if inShow s then refuse .locked s
  else if saving s then refuse .busy s
  else if cueNumberInRange number = false then refuse .outOfRange s
  else if (cueIndex s number).isNone then refuse .notFound s
  else if (entryRunning s number).isSome then refuse .inUse s
  else taken false [] (removeCue number s)

/-- LIST CUES (R32). -/
def decideListCues (number : CueNumber) (s : State) : Answer :=
  if cueNumberInRange number = false then refuse .outOfRange s else reported (listReport number s) s

/-- WRITE SNAPSHOT (R34). -/
def decideWriteSnapshot (id : Nat) (entries : List SnapEntry) (s : State) : Answer :=
  if inShow s then refuse .locked s
  else if saving s then refuse .busy s
  else if snapshotInRange id entries = false then refuse .outOfRange s
  else if entryPoolFree s + entriesOf s id < entries.length then refuse .full s
  else taken (decide (clampEntries entries ≠ entries)) [] (putSnapshot id (some (clampEntries entries)) s)

/-- READ SNAPSHOT: OK and NOT_FOUND both carry the recall status and clear recalled-since-read (R35, R37). -/
def decideReadSnapshot (id : Nat) (s : State) : Answer :=
  if within 0 127 id = false then refuse .outOfRange s
  else
    let cleared := s.withCst { s.cst with recalledSinceRead := false }
    match sparseFind s.cst.snapshots id with
    | some entries => ⟨.ok, snapshotReport entries s, cleared⟩
    | none => ⟨.notFound, recallFields s, cleared⟩

/-- DELETE SNAPSHOT (R34). -/
def decideDeleteSnapshot (id : Nat) (s : State) : Answer :=
  if inShow s then refuse .locked s
  else if saving s then refuse .busy s
  else if within 0 127 id = false then refuse .outOfRange s
  else if (sparseFind s.cst.snapshots id).isNone then refuse .notFound s
  else taken false [] (putSnapshot id none s)

/-- PREFLIGHT (R39). -/
def decidePreflight (verify : Nat) (s : State) : Answer :=
  if inShow s then refuse .locked s
  else if slotOccupied s then refuse .busy s
  else if badFlag verify then refuse .outOfRange s
  else accepted (startPreflight (verify == 1) s)

/-- READ PREFLIGHT (R44). -/
def decideReadPreflight (s : State) : Answer := reported (preflightReport s) s

/-! ### MIX (R3, R9, R10, R22) -/

/-- A source and a bus are in range (R9, R10). -/
def crosspointInRange (source bus : Nat) : Bool := within 1 48 source && within 1 25 bus

/-- SET CROSSPOINT (R9). -/
def decideSetCrosspoint (source bus : Nat) (level : Level) (time : Nat) (s : State) : Answer :=
  if crosspointInRange source bus = false then refuse .outOfRange s
  else
    taken (decide (clampLevel level ≠ level ∨ longest < time)) []
      (if time = 0 then setUntimed source bus level s else fadeRequest 0 source bus level time .none s)

/-- READ CROSSPOINT (R10). -/
def decideReadCrosspoint (source bus : Nat) (s : State) : Answer :=
  if crosspointInRange source bus = false then refuse .outOfRange s
  else reported (crosspointReport source bus s) s

/-- SET BUS MASTER (R3). -/
def decideSetBusMaster (bus : Nat) (level : Level) (s : State) : Answer :=
  if within 1 25 bus = false then refuse .outOfRange s
  else taken (decide (clampLevel level ≠ level)) [] (setMaster bus level s)

/-- READ METERS, after which every record is clear (R22). -/
def decideReadMeters (s : State) : Answer :=
  ⟨.ok, metersReport s, s.withMix { s.mix with meters := [] }⟩

/-! ### FBG (R124 to R126) -/

/-- SET GOVERNOR (R124). -/
def decideSetGovernor (n : Nat) (b : GovernorBody) (s : State) : Answer :=
  if inShow s then refuse .locked s
  else if saving s then refuse .busy s
  else if governorInRange n b = false then refuse .outOfRange s
  else taken (decide ((govSettingsOf b).body ≠ b)) [] (applyGovSettings n (govSettingsOf b) s)

/-- READ GOVERNOR, after which RE-HUNT is clear (R126). -/
def decideReadGovernor (n : Nat) (s : State) : Answer :=
  if within 1 12 n = false then refuse .outOfRange s
  else ⟨.ok, governorReport n s, setGovernorRecord n { governorOf s n with rehunt := false } s⟩

/-- RESTART GOVERNOR (R125). -/
def decideRestartGovernor (n : Nat) (s : State) : Answer :=
  if within 1 12 n = false then refuse .outOfRange s else taken false [] (restartGovernor n s)

/-! ### PLY (R77, R91) -/

/-- PLAY (R77). -/
def decidePlay (n clip loops : Nat) (level : Level) (attack : Nat) (s : State) : Answer :=
  if (within 1 8 n && within 0 255 clip && within 0 255 loops) = false then refuse .outOfRange s
  else
    match clipEntry s clip with
    | none => refuse .notFound s
    | some e =>
      taken (decide (clampLevel level ≠ level ∨ longest < attack)) []
        (playTaken n ⟨clip, loops, clampLevel level, min longest attack, none, 0⟩ e s)

/-- STOP PLAYER (R91). -/
def decideStopPlayer (n release : Nat) (s : State) : Answer :=
  if within 1 8 n = false then refuse .outOfRange s
  else taken (decide (longest < release)) [] (stopPlayer n (min longest release) s)

/-- READ PLAYER (R91). -/
def decideReadPlayer (n : Nat) (s : State) : Answer :=
  if within 1 8 n = false then refuse .outOfRange s else reported (playerReport n s) s

/-- SET PLAYER (R91). -/
def decideSetPlayer (t : Nat) (s : State) : Answer :=
  if inShow s then refuse .locked s
  else if saving s then refuse .busy s
  else taken (decide (60000 < t)) [] (setHoldTime t s)

/-! ### CMC (R95, R96, R101 to R106, R109) -/

/-- WRITE PAGE (R101). -/
def decideWritePage (page : Nat) (data : List Byte) (s : State) : Answer :=
  if inShow s then refuse .locked s
  else if slotOccupied s then refuse .busy s
  else if page ≤ 1023 ∨ s.cmc.capacity ≤ page then refuse .outOfRange s
  else accepted (setSlot (some (.writePage page data false)) (setClean false s))

/-- READ PAGE (R103): refused, or taken and in hand until its page read ends. -/
def refuseReadPage (page : Nat) (s : State) : Option Status :=
  if slotOccupied s then some .busy
  else if s.cmc.capacity ≤ page then some .outOfRange
  else none

/-- ERASE SECTOR (R102). -/
def decideEraseSector (sector : Nat) (s : State) : Answer :=
  if inShow s then refuse .locked s
  else if slotOccupied s then refuse .busy s
  else if sector ≤ 15 ∨ s.cmc.capacity ≤ 64 * sector then refuse .outOfRange s
  else accepted (setSlot (some (.eraseSector sector)) (setClean false s))

/-- WRITE DIRECTORY ENTRY (R95, R96). -/
def decideWriteDirectory (clip : Nat) (d : DirectoryBody) (s : State) : Answer :=
  if inShow s then refuse .locked s
  else if saving s then refuse .busy s
  else if directoryInRange s.cmc.capacity clip d = false then refuse .outOfRange s
  else taken false [] (writeDirectory clip d s)

/-- READ DIRECTORY ENTRY (R96). -/
def decideReadDirectory (clip : Nat) (s : State) : Answer :=
  if within 0 255 clip = false then refuse .outOfRange s
  else reported (.u16 clip :: directoryFields (directoryBody (clipEntry s clip))) s

/-- VERIFY CLIP (R104). -/
def decideVerifyClip (clip : Nat) (s : State) : Answer :=
  if within 0 255 clip = false then refuse .outOfRange s
  else if slotOccupied s then refuse .busy s
  else
    match clipEntry s clip with
    | none => refuse .notFound s
    | some e => accepted (setSlot (some (.verifyClip clip e 0 0xFFFF#16)) s)

/-- SAVE SHOW (R106). -/
def decideSaveShow (s : State) : Answer :=
  if inShow s then refuse .locked s
  else if slotOccupied s then refuse .busy s
  else accepted (setSlot (some (.saveShow (showFile (showNow s)) (.erase 0))) s)

/-- LOAD SHOW: the load occupies the slot, preflight-clean is cleared, and standby becomes NONE (R109). -/
def decideLoadShow (s : State) : Answer :=
  if inShow s then refuse .locked s
  else if slotOccupied s then refuse .busy s
  else accepted (moveStandby none false (setSlot (some (.load false .header)) (setClean false s)))

/-! ### RPU (R146 to R149) -/

/-- SET ZONE (R146). -/
def decideSetZone (n : Nat) (b : ZoneBody) (s : State) : Answer :=
  if saving s then refuse .busy s
  else if zoneInRange n b = false then refuse .outOfRange s
  else taken (decide (clampZone b ≠ b)) [] (applyZone n b s)

/-- READ ZONE, after which the zone's clip count is 0 (R149). -/
def decideReadZone (n : Nat) (s : State) : Answer :=
  if within 1 24 n = false then refuse .outOfRange s
  else ⟨.ok, zoneReport n s, setZoneRecord n { zoneOf s n with clips := 0 } s⟩

/-- The class and the source of a PAGE request, when the two go together and are in range: TALK is LIVE, CALL and TIMED are
CLIP (R148). The clip id of a LIVE request is not looked at (log entry 24). -/
def pageKind (b : PageBody) : Option (PageClass × PageSource) :=
  if b.cls = 1 ∧ b.sourceKind = 0 then some (.talk, .live)
  else if b.cls = 2 ∧ b.sourceKind = 1 ∧ b.clip ≤ 255 then some (.call, .clip b.clip)
  else if b.cls = 3 ∧ b.sourceKind = 1 ∧ b.clip ≤ 255 then some (.timed, .clip b.clip)
  else none

/-- What a decided page request is answered with: page number and disposition ACTIVE 0, QUEUED 1 with its position, MERGED 2,
UNITED 3; a position has 32 bits (R148, R187). -/
def pageAnswer : PageOutcome → Status × List Field
  | .active n => (.ok, [.u16 n, .u8 0])
  | .queued n position => (.ok, [.u16 n, .u8 1, .u32 position])
  | .merged n => (.ok, [.u16 n, .u8 2])
  | .united n => (.ok, [.u16 n, .u8 3])
  | .full => (.full, [])
  | .dropped => (.outOfRange, [])

/-- PAGE (R148). -/
def decidePage (b : PageBody) (s : State) : Answer :=
  match pageKind b with
  | none => refuse .outOfRange s
  | some (cls, source) =>
    if targetInRange b.target = false then refuse .outOfRange s
    else if clipAbsent s source then refuse .notFound s
    else if targetSelectsAny b.target s = false then refuse .outOfRange s
    else
      let r := requestPage (pageOf cls source (targetSpread b.target) .link) s
      ⟨(pageAnswer r.2).1, (pageAnswer r.2).2, r.1⟩

/-- Whether a page number names the STOP page (R148). -/
def namesStopPage (s : State) (number : Nat) : Bool :=
  (match s.rpu.active with
    | some a => a.page.number == number && a.page.cls == .stop
    | none => false)
  || s.rpu.queue.any fun p => p.number == number && p.cls == .stop

/-- CANCEL PAGE (R148). -/
def decideCancelPage (number : Nat) (s : State) : Answer :=
  if within 1 65535 number = false then refuse .outOfRange s
  else if pageHeld s number = false then refuse .notFound s
  else if namesStopPage s number then refuse .inUse s
  else taken false [] (cancelPage number s)

/-- READ PAGE QUEUE (R149). -/
def decideReadPageQueue (s : State) : Answer := reported (pageQueueReport s) s

/-- SET PAGING (R147). -/
def decideSetPaging (b : PagingBody) (s : State) : Answer :=
  if saving s then refuse .busy s
  else if pagingInRange b = false then refuse .outOfRange s
  else taken (decide ((pagingSettingsOf b).body ≠ b)) [] (applyPaging b s)

/-! ### HSU (R152, R159) -/

/-- The hold request flag after an action: ON 0, OFF 1, REPORT 2 (R152). -/
def flagAfter (action : Nat) (flag : Bool) : Bool :=
  if action = 0 then true else if action = 1 then false else flag

/-- HOLD (R152). -/
def decideHold (action : Nat) (s : State) : Answer :=
  if within 0 2 action = false then refuse .outOfRange s
  else
    let s1 := onHsu (fun h => { h with holdRequest := flagAfter action h.holdRequest }) s
    reported (holdReport s1) s1

/-- SHOW STOP (R152). -/
def decideShowStop (action : Nat) (s : State) : Answer :=
  if within 0 2 action = false then refuse .outOfRange s
  else
    let s1 := onHsu (fun h => { h with stopRequest := flagAfter action h.stopRequest }) s
    reported (holdReport s1) s1

/-- SET STOP (R159). -/
def decideSetStop (b : StopBody) (s : State) : Answer :=
  if saving s then refuse .busy s
  else if stopInRange b = false then refuse .outOfRange s
  else
    let s1 := applyStop b s
    taken (decide ((stopSettingsOf b).body ≠ b)) (holdReport s1) s1

/-! ### TMU (R165, R168, R170 to R174) -/

/-- READ CLOCK (R174). -/
def decideReadClock (s : State) : Answer := reported (clockReport s) s

/-- The fields of ARM TIMER are in range: ABSOLUTE 0, RELATIVE 1 (R168). -/
def armInRange (n timeKind time : Nat) (payload : Payload) : Bool :=
  within 1 8 n && within 0 1 timeKind && !(timeKind == 1 && decide (2147483647 < time)) && payloadInRange payload

/-- ARM TIMER: answered with the target and the resulting state (R168). -/
def decideArmTimer (n timeKind time : Nat) (payload : Payload) (s : State) : Answer :=
  if armInRange n timeKind time payload = false then refuse .outOfRange s
  else
    let target := if timeKind = 1 then fromNow time s else BitVec.ofNat 32 time
    let s1 := armTimer n target payload s
    taken false [.u32 target.toNat, .u8 (timerOf s1 n).state.number] s1

/-- DISARM TIMER (R170). -/
def decideDisarmTimer (n : Nat) (s : State) : Answer :=
  if within 1 8 n = false then refuse .outOfRange s else taken false [] (disarmTimer n s)

/-- READ TIMERS (R170). -/
def decideReadTimers (s : State) : Answer := reported (timersReport s) s

/-- READ MARKS (R171). -/
def decideReadMarks (s : State) : Answer := reported (marksReport s) s

/-- READ GO RECORD (R172). -/
def decideReadGoRecord (s : State) : Answer := reported (goReport s) s

/-- SET LINE (R165). -/
def decideSetLine (n : Nat) (b : LineBody) (s : State) : Answer :=
  if saving s then refuse .busy s
  else if lineInRange n b = false then refuse .outOfRange s
  else taken (decide (clampLine b ≠ b)) [] (applyLine n b s)

/-! ### The owner's decision (R179) -/

/-- A request handed to its owning block: its answer, or none for a READ PAGE, which is decided by the control link's part of
R103. -/
def decideRequest : Request → State → Answer
  | .identify, s => decideIdentify s
  | .status, s => decideStatus s
  | .takeEvent, s => decideTakeEvent s
  | .setEventMask mask, s => decideSetEventMask mask s
  | .resetDevice, s => decideResetDevice s
  | .enterShow, s => decideEnterShow s
  | .leaveShow, s => decideLeaveShow s
  | .resetShow, s => decideResetShow s
  | .hold action, s => decideHold action s
  | .showStop action, s => decideShowStop action s
  | .go, s => decideGoRequest s
  | .fire number, s => decideFireRequest number s
  | .locate number mode honourSkip, s => decideLocate number mode honourSkip s
  | .readRunning, s => decideReadRunning s
  | .setSequencer skipCut lockout, s => decideSetSequencer skipCut lockout s
  | .writeCue b, s => decideWriteCue b s
  | .readCue number, s => decideReadCue number s
  | .deleteCue number, s => decideDeleteCue number s
  | .listCues number, s => decideListCues number s
  | .writeSnapshot id entries, s => decideWriteSnapshot id entries s
  | .readSnapshot id, s => decideReadSnapshot id s
  | .deleteSnapshot id, s => decideDeleteSnapshot id s
  | .preflight verify, s => decidePreflight verify s
  | .readPreflight, s => decideReadPreflight s
  | .setCrosspoint source bus level time, s => decideSetCrosspoint source bus level time s
  | .readCrosspoint source bus, s => decideReadCrosspoint source bus s
  | .setBusMaster bus level, s => decideSetBusMaster bus level s
  | .readMeters, s => decideReadMeters s
  | .setGovernor n b, s => decideSetGovernor n b s
  | .readGovernor n, s => decideReadGovernor n s
  | .restartGovernor n, s => decideRestartGovernor n s
  | .play n clip loops level attack, s => decidePlay n clip loops level attack s
  | .stopPlayer n release, s => decideStopPlayer n release s
  | .readPlayer n, s => decideReadPlayer n s
  | .setPlayer t, s => decideSetPlayer t s
  | .writePage page data, s => decideWritePage page data s
  | .readPage page, s => refuse ((refuseReadPage page s).getD .ok) s
  | .eraseSector sector, s => decideEraseSector sector s
  | .writeDirectoryEntry clip d, s => decideWriteDirectory clip d s
  | .readDirectoryEntry clip, s => decideReadDirectory clip s
  | .verifyClip clip, s => decideVerifyClip clip s
  | .saveShow, s => decideSaveShow s
  | .loadShow, s => decideLoadShow s
  | .setZone n b, s => decideSetZone n b s
  | .readZone n, s => decideReadZone n s
  | .page b, s => decidePage b s
  | .cancelPage number, s => decideCancelPage number s
  | .readPageQueue, s => decideReadPageQueue s
  | .setPaging b, s => decideSetPaging b s
  | .readClock, s => decideReadClock s
  | .armTimer n timeKind time payload, s => decideArmTimer n timeKind time payload s
  | .disarmTimer n, s => decideDisarmTimer n s
  | .readTimers, s => decideReadTimers s
  | .readMarks, s => decideReadMarks s
  | .readGoRecord, s => decideReadGoRecord s
  | .setLine n b, s => decideSetLine n b s
  | .setStop b, s => decideSetStop b s

end Sys2Proof.Machine
end

