-- ==== Sys2Proof/Machine/Link.lean ====
section
/-!
DEFINITION. The control link: the frame hunter (R177), the receive queue (R178), the taking of items and the replies (R179,
R180), and the reset of the part (R182, R186).
-/

namespace Sys2Proof.Machine

/-- The control link's state changed. -/
def onClink (f : Clink → Clink) (s : State) : State := s.withClink (f s.clink)

/-! ### Frame errors (R177) -/

/-- The causes of a frame error, LENGTH, CRC, KIND, GAP, CHARACTER (R177). -/
inductive FrameCause where
  | length
  | crc
  | kind
  | gap
  | character
  deriving DecidableEq, Repr

/-- A cause's number in the LINK event (R187). -/
def FrameCause.number : FrameCause → Nat
  | .length => 0
  | .crc => 1
  | .kind => 2
  | .gap => 3
  | .character => 4

/-- The link error count increased by 1, saturating (R177, R178). -/
def countLinkError (s : State) : State := onClink (fun c => { c with errors := countUp 65535 c.errors }) s

/-- A frame error: counted, and LINK raised with source 1 (R177). -/
def frameError (cause : FrameCause) (s : State) : State :=
  raiseEvent .link 1 (bytesOf 1 cause.number) (countLinkError s)

/-! ### The receive queue (R178) -/

/-- An item offered: it joins the queue, or is discarded, counted and raised as an overrun with its code and tag (R178). -/
def offer (item : Item) (code tag : Nat) (s : State) : State :=
  if 4 ≤ s.clink.queue.length then
    raiseEvent .link 2 (bytesOf 1 code ++ bytesOf 1 tag) (countLinkError s)
  else onClink (fun c => { c with queue := c.queue ++ [item] }) s

/-- A frame error that is answered: LENGTH, CRC and KIND are offered to the queue as frame-error items (R177). -/
def answeredFrameError (cause : FrameCause) (s : State) : State := offer .frameError 0 0 (frameError cause s)

/-- An item's tag, when it is a request. -/
def Item.tag : Item → Option Nat
  | .frameError => none
  | .request tag _ _ => some tag

/-- Whether a tag is that of a request waiting in the queue or of the request in hand (R178). -/
def tagWaits (c : Clink) (tag : Nat) : Bool :=
  (c.queue.any fun i => i.tag == some tag) || (c.inHand.map (·.tag)) == some tag

/-- A request frame offered to the queue, marked when its tag waits (R178). -/
def offerRequest (tag code : Nat) (parsed : Parsed) (s : State) : State :=
  offer (.request tag (tagWaits s.clink tag) parsed) code tag s

/-! ### Taking items (R179) -/

/-- A reply joins the reply queue (R179). -/
def sendReply (code tag : Nat) (status : Status) (contents : List Field) (s : State) : State :=
  onClink (fun c => { c with replies := c.replies ++ [⟨code, tag, status, contents⟩] }) s

/-- An item may be taken: no request in hand, fewer than 2 replies waiting, RESET DEVICE not taken (R179). -/
def mayTake (c : Clink) : Bool := c.inHand.isNone && decide (c.replies.length < 2) && !c.resetTaken

/-- The requests that a show load does not refuse (R179). -/
def takenInLoad : Request → Bool
  | .identify => true
  | .status => true
  | .takeEvent => true
  | _ => false

/-- An owner's answer put into effect, its reply queued (R179). -/
def giveAnswer (code tag : Nat) (a : Answer) : State := sendReply code tag a.status a.contents a.state

/-- A READ PAGE refused, or taken into hand (R103, R179). -/
def takeReadPage (tag page : Nat) (s : State) : State :=
  match refuseReadPage page s with
  | some st => sendReply 0x49 tag st [] s
  | none => onClink (fun c => { c with inHand := some ⟨tag, page⟩ }) s

/-- A request handed to its owner, or refused BUSY during a show load (R179). -/
def handRequest (tag : Nat) (r : Request) (s : State) : State :=
  if loading s = true ∧ takenInLoad r = false then sendReply (requestCode r) tag .busy [] s
  else
    match r with
    | .readPage page => takeReadPage tag page s
    | r => giveAnswer (requestCode r) tag (decideRequest r s)

/-- The code of a parsed frame. -/
def Parsed.code : Parsed → Nat
  | .request r => requestCode r
  | .badLength code => code
  | .unknown code => code

/-- An item decided by the checks of R179, in their order. -/
def decideItem (item : Item) (s : State) : State :=
  match item with
  | .frameError => sendReply 0 0 .frameError [] s
  | .request tag duplicate parsed =>
    if duplicate then sendReply parsed.code tag .duplicate [] s
    else
      match parsed with
      | .unknown code => sendReply code tag .unknownRequest [] s
      | .badLength code => sendReply code tag .badLength [] s
      | .request r => handRequest tag r s

/-- The item at the head of the queue taken and decided, with what follows in its step. -/
def takeHead (item : Item) (rest : List Item) (s : State) : State :=
  settle (decideItem item (onClink (fun c => { c with queue := rest }) s))

/-- Items taken one after the other while they may be, at most `fuel` of them (R179). -/
def serveFrom : Nat → State → State
  | 0, s => s
  | fuel + 1, s =>
    match s.clink.queue with
    | [] => s
    | item :: rest => if mayTake s.clink then serveFrom fuel (takeHead item rest s) else s

/-- The control link takes all the items it may (R179). -/
def serve (s : State) : State := serveFrom s.clink.queue.length s

/-- What follows an arrival: taken whole, the link takes all it may; split, the items are left waiting (log entry 8). -/
def serveIf (taking : Taking) (s : State) : State :=
  match taking with
  | .whole => serve s
  | .split => s

/-! ### The frame hunter (R177) -/

/-- The hunter back in HUNTING, gap count 0. -/
def hunterHome (s : State) : State := onClink (fun c => { c with hunter := {}, gap := 0 }) s

/-- The bytes a frame's CRC covers: length, kind, code, tag and body (R177). -/
def frameCovered (f : Frame) : List Byte :=
  bytesOf 2 f.body.length ++ [f.kind, f.code, f.tag] ++ f.body

/-- A complete frame judged by CRC, then by kind; a request is offered to the queue (R177). -/
def judgeFrame (f : Frame) (s : State) : State :=
  if crcOf (frameCovered f) ≠ f.crc then answeredFrameError .crc s
  else if f.kind ≠ 1 then answeredFrameError .kind s
  else offerRequest f.tag.toNat f.code.toNat (parseRequest f.code.toNat f.body) s

/-- A frame that is complete as it stands, its length bytes included, judged with the hunter back in HUNTING: a length above
1040 never completes and is a frame error of cause LENGTH (R177). -/
def frameReceived (f : Frame) (s : State) : State :=
  if 1040 < f.body.length then answeredFrameError .length (hunterHome s) else judgeFrame f (hunterHome s)

/-- The frame that the bytes since the marker spell: two of length, kind, code, tag, the body and two of CRC (R177). -/
def frameOfBytes (b : List Byte) : Frame where
  kind := b.getD 2 0
  code := b.getD 3 0
  tag := b.getD 4 0
  body := (b.drop 5).take (b.length - 7)
  crc := BitVec.ofNat 16 (natAt b (b.length - 2) 2)

/-- The hunter put into a phase with the bytes received since the marker, gap count 0 (R177). -/
def hunterAt (phase : HunterPhase) (length : Nat) (bytes : List Byte) (s : State) : State :=
  onClink (fun c => { c with hunter := { phase := phase, length := length, bytes := bytes }, gap := 0 }) s

/-- The second length byte judged: above 1040, a frame error of cause LENGTH (R177). -/
def lengthReceived (bytes : List Byte) (s : State) : State :=
  let n := unsignedOf bytes
  if 1040 < n then answeredFrameError .length (hunterHome s) else hunterAt .header n bytes s

/-- One byte received by the frame hunter (R177). -/
def byteReceived (b : Byte) (s : State) : State :=
  let h := s.clink.hunter
  let bytes := h.bytes ++ [b]
  match h.phase with
  | .hunting => if b = 0xC5#8 then hunterAt .length 0 [] s else hunterHome s
  | .length => if bytes.length < 2 then hunterAt .length 0 bytes s else lengthReceived bytes s
  | .header =>
    if bytes.length < 5 then hunterAt .header h.length bytes s
    else hunterAt (if h.length = 0 then .check else .body) h.length bytes s
  | .body => hunterAt (if bytes.length < 5 + h.length then .body else .check) h.length bytes s
  | .check =>
    if bytes.length < 7 + h.length then hunterAt .check h.length bytes s
    else judgeFrame (frameOfBytes bytes) (hunterHome s)

/-- The second length byte of a frame whose length lies above 1040 (R177); any other byte or phase is left alone. -/
def badLengthReceived (b : Byte) (s : State) : State :=
  let h := s.clink.hunter
  if h.phase = .length ∧ h.bytes.length = 1 ∧ 1040 < unsignedOf (h.bytes ++ [b]) then byteReceived b s else s

/-- The gap count at a millisecond boundary (R177). -/
def countGap (s : State) : State :=
  if s.clink.hunter.phase = .hunting then s else onClink (fun c => { c with gap := min 11 (c.gap + 1) }) s

/-- The gap count has reached 11: the partial frame is abandoned (R177). -/
def gapTimeOut (s : State) : State :=
  if s.clink.hunter.phase ≠ .hunting ∧ 11 ≤ s.clink.gap then frameError .gap (hunterHome s) else s

/-- A character error: the partial frame is abandoned; in HUNTING nothing (R177). -/
def characterBroken (s : State) : State :=
  if s.clink.hunter.phase = .hunting then s else frameError .character (hunterHome s)

/-! ### Single items (R179) -/

/-- The item at the head of the queue taken when it is of a kind and may be taken; otherwise nothing happens. -/
def takeHeadIf (ok : Item → Bool) (s : State) : State :=
  match s.clink.queue with
  | [] => s
  | item :: rest => if ok item = true ∧ mayTake s.clink = true then takeHead item rest s else s

/-- A frame-error item. -/
def Item.isFrameError : Item → Bool
  | .frameError => true
  | .request _ _ _ => false

/-- A request with a code outside the request table, not marked as a duplicate. -/
def Item.isUnknown : Item → Bool
  | .request _ false (.unknown _) => true
  | _ => false

/-! ### Replies sent and the reset of the part (R176, R182, R186, R110) -/

/-- The last byte of the reply at the head of the reply queue leaves LINK_TXD (R176, R179). -/
def replySent (s : State) : State :=
  match s.clink.replies with
  | [] => s
  | r :: rest => onClink (fun c => { c with replies := rest, sent := some r }) s

/-- The number of the link rate the straps choose: 1, 3, 6 or 12 Mbit/s (R176). -/
def rateOf (i : ResetInputs) : Nat := 2 * flagNumber i.rateB + flagNumber i.rateA

/-- The capacities a flash may have, in pages (R93). -/
def capacities : List Nat := [2048, 4096, 8192, 16384, 32768, 65536, 131072, 262144, 524288, 1048576]

/-- The capacity recorded of a flash: 0 when it does not answer or reports one outside the range (R93). -/
def capacityOf : Option Nat → Nat
  | none => 0
  | some p => if capacities.contains p then p else 0

/-- What a reset leaves of the flash: the work of a program or erase in flight is done in part (R110). -/
def flashCut (s : State) : List Host.Cell :=
  match s.cmc.transfer with
  | none => s.cmc.flash
  | some t => flashInterrupted s.draws s.cmc.flash t.extent

/-- A load finds no fault in the header and the CRC of the show region (R107). -/
def regionSound (m : List Host.Cell) : Bool :=
  match examineHeader (flashRead m 0 4096) with
  | .inl _ => false
  | .inr length => fileCrcGood (flashRead m 0 length)

/-- A show save stands between the grant of its first erase and the completion of its last page program (R110). -/
def saveCut (s : State) : Bool :=
  match s.cmc.slot with
  | some (.saveShow _ phase) =>
    match phase with
    | .erase k => decide (1 ≤ k) || (s.cmc.transfer.map (·.extent)) == some (.sectorErase 0)
    | .program _ => true
    | .readBack _ _ => false
  | _ => false

/-- The show region that a cut save leaves, never a sound one: the region as cut; where that is sound by its free bits, as it
stood before the transfer in flight; where that is sound too, so with its first byte erased (R110; log entry 36). -/
def tornFlash (before cut : List Host.Cell) : List Host.Cell :=
  if regionSound cut = false then cut
  else if regionSound before = false then before
  else flashSet before 0 erased

/-- The flash as a reset finds it (R110). -/
def flashAtReset (s : State) : List Host.Cell :=
  if saveCut s then tornFlash s.cmc.flash (flashCut s) else flashCut s

/-- Every block at its power-on values, with the straps, the flash and the commands that wait as they are found (R186, R110). -/
def resetValues (i : ResetInputs) (s : State) : State :=
  let r := State.reset
  { r with
    clink := { r.clink with rate := rateOf i }
    cmc := { r.cmc with capacity := capacityOf i.flashPages, flash := flashAtReset s }
    draws := s.draws + 1
    pending := s.pending }

/-- The part at its power-on values, the start-up show load's first block read asked for and granted (R186, R110, R98). -/
def resetPart (i : ResetInputs) (s : State) : State := arbitrate (resetValues i s)

/-- RESET DEVICE has been taken and its reply has left (R182). -/
def resetDue (s : State) : Bool := s.clink.resetTaken && s.clink.replies.isEmpty

/-- The part resets once RESET DEVICE has been taken and its reply has left; before that nothing happens (R182). -/
def deviceReset (i : ResetInputs) (s : State) : State := if resetDue s then resetPart i s else s

end Sys2Proof.Machine
end

