-- ==== Sys2Proof/Machine/Boundary.lean ====
section
/-!
DEFINITION. The two steps of the sample clock: the millisecond boundary (R162 with what every block does at it) and the sample
period (R19 with the players, the call voice, the page bus and the zones).
-/

namespace Sys2Proof.Machine

/-- `f` done when a flag is set. -/
def onlyIf (flag : Bool) (f : State → State) (s : State) : State := if flag then f s else s

/-- `f` done when the events of a step are taken in it (log entry 8). -/
def ifWhole (taking : Taking) (f : State → State) (s : State) : State :=
  match taking with
  | .whole => f s
  | .split => s

/-! ### The millisecond boundary -/

/-- What a line's count has brought is taken: assertion, release or the end of BLOCKED (R166, R167). -/
def settleLine (n : Nat) (s : State) : State :=
  if lineDue .released n s then lineAssertion n s
  else if lineDue .asserted n s then lineRelease n s
  else debounceUnblock n s

/-- The HOLD, STOP and TALK lines' counts taken (R166, R167). -/
def settleOtherLines (s : State) : State := settleLine 4 (settleLine 3 (settleLine 2 s))

/-- A millisecond counted on the governors' window grid (R114). -/
def countWindow (s : State) : State := s.withFbg { s.fbg with windowMs := s.fbg.windowMs + 1 }

/-- The governors' window ends when 100 ms of it have passed (R114). -/
def governorWindowEnd (s : State) : State := if 100 ≤ s.fbg.windowMs then windowEnd s else s

/-- The counts of a boundary, before anything is decided: clock, the selector's first judgement, debouncers, gap, transfer,
window, main duck, zone envelopes and attack timer. -/
def boundaryCounts (i : BoundaryInputs) (s : State) : State :=
  let s1 := sampleLines i (judgeClock (advanceClock s))
  relayAdvance (advanceDuck (countWindow (countTransfer (countGap s1))))

/-- What comes before HSU forms its values, by the order chosen: lines, SEQ's counts, and the blocks that act on the old
published values (R52, R65, R153). -/
def boundaryBefore (o : BoundaryOrder) (taking : Taking) (s : State) : State :=
  let s1 := onlyIf o.linesFirst (ifWhole taking settleOtherLines) s
  let s2 := countSeq (if o.seqOld then holding s1 else s1.hsu.holdFormed) s1
  let s3 := onlyIf o.lampOld decideLamp (onlyIf o.goFirst (ifWhole taking (settleLine 1)) s2)
  let s4 := settleSeq (onlyIf o.plyOld (playersBoundary taking) (onlyIf o.mixOld (matrixBoundary taking) s3))
  onlyIf o.fbgOld (ifWhole taking governorWindowEnd) (onlyIf o.seqOld (sequencerBoundary taking) s4)

/-- What the blocks do that act on the new published values (R13, R65, R86, R121). -/
def boundaryAfter (o : BoundaryOrder) (taking : Taking) (s : State) : State :=
  let s1 := onlyIf (!o.plyOld) (playersBoundary taking) (onlyIf (!o.mixOld) (matrixBoundary taking) s)
  let s2 := onlyIf (!o.seqOld) (sequencerBoundary taking) (settleSeq s1)
  onlyIf (!o.fbgOld) (ifWhole taking governorWindowEnd) s2

/-- What of a boundary is left once the blocks have acted: timers, the attack's end, the lines not yet delivered, the codes
formed, the lamp, the time-outs and the preflight's walk (R167, R169, R139, R130, R173, R177, R97, R40). -/
def boundaryLast (o : BoundaryOrder) (taking : Taking) (s : State) : State :=
  let s1 := ifWhole taking attackTimerExpiry (ifWhole taking fireTimers s)
  let s2 := onlyIf (!o.linesFirst) (ifWhole taking settleOtherLines) s1
  let s3 := onlyIf (!o.goFirst) (ifWhole taking (settleLine 1)) s2
  let s4 := formEnvelopeCodes (formZoneCodes s3)
  let s5 := walkStep (onlyIf (!o.lampOld) decideLamp s4)
  ifWhole taking (fun t => startsDue (transferOverdue (gapTimeOut t))) s5

/-- The first sample period of the next millisecond follows (R18). -/
def restartSamples (s : State) : State := s.withMix { s.mix with sample := 0 }

/-- A millisecond boundary (R162, and every block's own rule for it). -/
def millisecondBoundary (i : BoundaryInputs) (o : BoundaryOrder) (taking : Taking) (s : State) : State :=
  let s1 := boundaryBefore o taking (boundaryCounts i s)
  let s2 := boundaryAfter o taking (refreshAllFreezes (publishHold s1))
  serveIf taking (settle (restartSamples (boundaryLast o taking s2)))

/-! ### A request's frame -/

/-- A request's frame has arrived whole and sound, the hunter back in HUNTING: it is offered to the receive queue, and the
control link takes all it may (R177 to R179). -/
def arrive (tag : Nat) (r : Request) (s : State) : State :=
  serve (offerRequest tag (requestCode r) (.request r) (hunterHome s))

/-! ### The sample period -/

/-- The players' samples in player order, each as channels A and B, and their records moved on (R23, R81). -/
def samplePlayers : Nat → Nat → State → List Int × State
  | _, 0, s => ([], s)
  | n, count + 1, s =>
    let r := samplePlayer n s
    let rest := samplePlayers (n + 1) count r.2
    (r.1.1 :: r.1.2 :: rest.1, rest.2)

/-- The 48 source samples of a period: the 32 inputs, absent ones 0, and the players' (R23). -/
def sourceSamples (inputs players : List Int) : List Int :=
  (inputs ++ List.replicate 32 0).take 32 ++ players

/-- The exact sum of sources times gain codes on a bus, before the division by 2^22; a crosspoint not listed has code 0 (R19). -/
def busProduct (sources : List Int) (n bus : Nat) : Sparse Glide → Int
  | [] => 0
  | (i, g) :: rest =>
    (if busOfIndex i = bus then sources.getD (sourceOfIndex i - 1) 0 * g.at n else 0)
      + busProduct sources n bus rest

/-- The injection code in force on a bus, 0 where there is no record (R157). -/
def injectionInForce (s : State) (bus : Nat) : Nat := if bus ≤ 20 then (injectionOf s bus).code else 0

/-- A bus's rounded sum with the announcement injection, before sat24 (R19). -/
def busSum (sources : List Int) (p : Int) (bus : Nat) (s : State) : Int :=
  roundHalfAway (busProduct sources s.mix.sample bus s.mix.codes + p * injectionInForce s bus) (2 ^ 22)

/-- A bus's meter record after an output sample (R20, R21). -/
def Meter.after (m : Meter) (clipped : Bool) (y : Int) : Meter where
  peak := max m.peak y.natAbs
  clips := if clipped then countUp 65535 m.clips else m.clips

/-- An output sample of a foldback bus counted in its governor's window (R114). -/
def measureSample (bus : Nat) (y : Int) (s : State) : State :=
  if 9 ≤ bus ∧ bus ≤ 20 then
    s.withFbg { s.fbg with
      sums := sparseWrite 0 s.fbg.sums (bus - 8) (sparseRead 0 s.fbg.sums (bus - 8) + y.natAbs ^ 2) }
  else s

/-- One bus's output sample, metered, measured, and a clip counted and raised (R19, R20, R21). -/
def sampleBus (sources : List Int) (p : Int) (bus : Nat) (s : State) : Int × State :=
  let sum := busSum sources p bus s
  let y := sat24 sum
  let clipped := decide (y ≠ sum)
  let m := (meterOf s bus).after clipped y
  let s1 := measureSample bus y (s.withMix { s.mix with meters := sparseWrite {} s.mix.meters bus m })
  (y, if clipped then raiseEvent .busClip bus (bytesOf 2 m.clips) s1 else s1)

/-- The output samples of buses `bus .. bus + count - 1`. -/
def sampleBuses (sources : List Int) (p : Int) : Nat → Nat → State → List Int × State
  | _, 0, s => ([], s)
  | bus, count + 1, s =>
    let r := sampleBus sources p bus s
    let rest := sampleBuses sources p (bus + 1) count r.2
    (r.1 :: rest.1, rest.2)

/-- The output samples of zones `n .. n + count - 1` from the relay program and the page bus (R130). -/
def sampleZones (r p : Int) : Nat → Nat → State → List Int × State
  | _, 0, s => ([], s)
  | n, count + 1, s =>
    let z := sampleZone r p n s
    let rest := sampleZones r p (n + 1) count z.2
    (z.1 :: rest.1, rest.2)

/-- The output frame leaves one sample period after its input frame, buses on slots 1 to 24 and zones on 25 to 48; the next
sample of the millisecond follows (R24, R18). -/
def outputFrame (buses zones : List Int) (s : State) : State :=
  s.withMix { s.mix with
    tdmOut := s.mix.tdmNext, tdmNext := buses.take 24 ++ zones, sample := min 47 (s.mix.sample + 1) }

/-- What a sample period has brought to an end: plays, retrigger tails, the call voice's clip (R83, R80, R139). -/
def samplesEnd (s : State) : State :=
  clipPageEnd (forEach 1 8 (fun n t => retriggerTailEnd n (playEnd n t)) s)

/-- A sample period (R19, R81, R130, R132, R144, R157), the selector judging the word clock's edge first (R163). -/
def samplePeriod (inputs : SampleInputs) (taking : Taking) (s : State) : State :=
  let players := samplePlayers 1 8 (selectorPeriod inputs.edge taking s)
  let voice := sampleVoice players.2
  let p := pageBusSample inputs.channels voice.1 voice.2
  let buses := sampleBuses (sourceSamples inputs.channels players.1) p 1 25 (forEach 1 20 stepInjection voice.2)
  let zones := sampleZones (buses.1.getD 24 0) p 1 24 buses.2
  settle (ifWhole taking samplesEnd (outputFrame buses.1 zones.1 zones.2))

end Sys2Proof.Machine
end

