-- ==== Sys2Proof/Machine/CueEvents.lean ====
section
/-!
DEFINITION. What falls due on fades and on running cues. One meaning a command; none of them faults or refuses.
-/

namespace Sys2Proof.Machine

/-- The end of a prewait with what follows in its step: the actions of offset 0, and the expiry of a CONTINUE postwait of 0
(R60, R63); a prewait that has not run out is left alone. -/
def prewaitEndStep (slot : Nat) (s : State) : State :=
  match sparseFind s.seq.entries slot with
  | none => s
  | some e => if e.prewaitDue = true ∧ holding s = false then postwaitExpiry slot (sweep (prewaitEnd slot s)) else s

/-- FADE_END: a fade slot whose elapsed time has reached its duration ends (R12). -/
def execFadeEnd (slot : Nat) (s : State) : Host.Outcome State Fault Refusal :=
  .next (settle (endFade slot s))

/-- PREWAIT_END: the prewait of an entry that has run out ends (R60). -/
def execPrewaitEnd (slot : Nat) (s : State) : Host.Outcome State Fault Refusal :=
  .next (settle (prewaitEndStep slot s))

/-- ACTION_FIRE: the due action of an entry fires (R61). -/
def execActionFire (slot index : Nat) (s : State) : Host.Outcome State Fault Refusal :=
  .next (settle (actionFire slot index s))

/-- POSTWAIT_EXPIRY: the postwait of an entry that has run out expires (R63). -/
def execPostwaitExpiry (slot : Nat) (s : State) : Host.Outcome State Fault Refusal :=
  .next (settle (postwaitExpiry slot s))

end Sys2Proof.Machine
end

