-- ==== Sys2Proof/Machine/CueRequests.lean ====
section
/-!
DEFINITION. The requests of the cue store. One meaning a command; none of them faults or refuses.
-/

namespace Sys2Proof.Machine

/-- WRITE CUE: the request arrives, and is decided when its turn comes (R30). -/
def execWriteCue (tag : Nat) (cue : CueBody) (s : State) : Host.Outcome State Fault Refusal :=
  .next (arrive tag (.writeCue cue) s)

/-- READ CUE: the request arrives, and is decided when its turn comes (R32). -/
def execReadCue (tag : Nat) (number : CueNumber) (s : State) : Host.Outcome State Fault Refusal :=
  .next (arrive tag (.readCue number) s)

/-- DELETE CUE: the request arrives, and is decided when its turn comes (R31). -/
def execDeleteCue (tag : Nat) (number : CueNumber) (s : State) : Host.Outcome State Fault Refusal :=
  .next (arrive tag (.deleteCue number) s)

/-- LIST CUES: the request arrives, and is decided when its turn comes (R32). -/
def execListCues (tag : Nat) (number : CueNumber) (s : State) : Host.Outcome State Fault Refusal :=
  .next (arrive tag (.listCues number) s)

/-- WRITE SNAPSHOT: the request arrives, and is decided when its turn comes (R34). -/
def execWriteSnapshot (tag id : Nat) (entries : List SnapEntry) (s : State) : Host.Outcome State Fault Refusal :=
  .next (arrive tag (.writeSnapshot id entries) s)

/-- READ SNAPSHOT: the request arrives, and is decided when its turn comes (R35). -/
def execReadSnapshot (tag id : Nat) (s : State) : Host.Outcome State Fault Refusal :=
  .next (arrive tag (.readSnapshot id) s)

/-- DELETE SNAPSHOT: the request arrives, and is decided when its turn comes (R34). -/
def execDeleteSnapshot (tag id : Nat) (s : State) : Host.Outcome State Fault Refusal :=
  .next (arrive tag (.deleteSnapshot id) s)

/-- PREFLIGHT: the request arrives, and is decided when its turn comes (R39). -/
def execPreflight (tag verify : Nat) (s : State) : Host.Outcome State Fault Refusal :=
  .next (arrive tag (.preflight verify) s)

/-- READ PREFLIGHT: the request arrives, and is decided when its turn comes (R44). -/
def execReadPreflight (tag : Nat) (s : State) : Host.Outcome State Fault Refusal :=
  .next (arrive tag .readPreflight s)

end Sys2Proof.Machine
end

