-- ==== Sys2Proof/Machine/GovernorRequests.lean ====
section
/-!
DEFINITION. The requests of the foldback governors. One meaning a command; none of them faults or refuses.
-/

namespace Sys2Proof.Machine

/-- SET GOVERNOR: the request arrives, and is decided when its turn comes (R124). -/
def execSetGovernor (tag governor : Nat) (body : GovernorBody) (s : State) : Host.Outcome State Fault Refusal :=
  .next (arrive tag (.setGovernor governor body) s)

/-- READ GOVERNOR: the request arrives, and is decided when its turn comes (R126). -/
def execReadGovernor (tag governor : Nat) (s : State) : Host.Outcome State Fault Refusal :=
  .next (arrive tag (.readGovernor governor) s)

/-- RESTART GOVERNOR: the request arrives, and is decided when its turn comes (R125). -/
def execRestartGovernor (tag governor : Nat) (s : State) : Host.Outcome State Fault Refusal :=
  .next (arrive tag (.restartGovernor governor) s)

end Sys2Proof.Machine
end

