-- ==== Sys2Proof/Machine/HoldRequests.lean ====
section
/-!
DEFINITION. The requests of the hold and stop unit. One meaning a command; none of them faults or refuses.
-/

namespace Sys2Proof.Machine

/-- HOLD ON: the request arrives, and is decided when its turn comes (R152). -/
def execHoldOn (tag : Nat) (s : State) : Host.Outcome State Fault Refusal :=
  .next (arrive tag (.hold 0) s)

/-- HOLD OFF: the request arrives, and is decided when its turn comes (R152). -/
def execHoldOff (tag : Nat) (s : State) : Host.Outcome State Fault Refusal :=
  .next (arrive tag (.hold 1) s)

/-- HOLD REPORT: the request arrives, and is decided when its turn comes (R152). -/
def execHoldReport (tag : Nat) (s : State) : Host.Outcome State Fault Refusal :=
  .next (arrive tag (.hold 2) s)

/-- SHOW STOP ON: the request arrives, and is decided when its turn comes (R152). -/
def execShowStopOn (tag : Nat) (s : State) : Host.Outcome State Fault Refusal :=
  .next (arrive tag (.showStop 0) s)

/-- SHOW STOP OFF: the request arrives, and is decided when its turn comes (R152). -/
def execShowStopOff (tag : Nat) (s : State) : Host.Outcome State Fault Refusal :=
  .next (arrive tag (.showStop 1) s)

/-- SHOW STOP REPORT: the request arrives, and is decided when its turn comes (R152). -/
def execShowStopReport (tag : Nat) (s : State) : Host.Outcome State Fault Refusal :=
  .next (arrive tag (.showStop 2) s)

/-- SET STOP: the request arrives, and is decided when its turn comes (R159). -/
def execSetStop (tag : Nat) (body : StopBody) (s : State) : Host.Outcome State Fault Refusal :=
  .next (arrive tag (.setStop body) s)

end Sys2Proof.Machine
end

