-- ==== Sys2Proof/Machine/LineEvents.lean ====
section
/-!
DEFINITION. The debounced events of the four lines. One meaning a command; none of them faults or refuses.
-/

namespace Sys2Proof.Machine

/-- LINE_ASSERTION: a line that has stood active for its debounce is ASSERTED and delivered (R167). -/
def execLineAssertion (line : Nat) (s : State) : Host.Outcome State Fault Refusal :=
  .next (settle (lineAssertion line s))

/-- LINE_RELEASE: a line that has stood inactive for its debounce is RELEASED and delivered (R167). -/
def execLineRelease (line : Nat) (s : State) : Host.Outcome State Fault Refusal :=
  .next (settle (lineRelease line s))

/-- DEBOUNCE_UNBLOCK: a BLOCKED line that has stood inactive for its debounce is RELEASED, nothing delivered (R166). -/
def execDebounceUnblock (line : Nat) (s : State) : Host.Outcome State Fault Refusal :=
  .next (debounceUnblock line s)

end Sys2Proof.Machine
end

