-- ==== Sys2Proof/Machine/LinkEvents.lean ====
section
/-!
DEFINITION. What happens on the control link. One meaning a command; none of them faults or refuses.
-/

namespace Sys2Proof.Machine

/-- FRAME_RECEIVED: a complete frame is judged and offered to the receive queue (R177). -/
def execFrameReceived (frame : Frame) (taking : Taking) (s : State) : Host.Outcome State Fault Refusal :=
  .next (serveIf taking (frameReceived frame s))

/-- FRAME_LENGTH_ERROR: the second length byte of a frame shows a length above 1040 (R177). -/
def execFrameLengthError (second : Byte) (taking : Taking) (s : State) : Host.Outcome State Fault Refusal :=
  .next (serveIf taking (badLengthReceived second s))

/-- FRAME_GAP_TIMEOUT: a partial frame is abandoned after a gap of more than 10 ms (R177). -/
def execFrameGapTimeout (s : State) : Host.Outcome State Fault Refusal :=
  .next (gapTimeOut s)

/-- CHARACTER_ERROR: a character with its stop bit low is received (R177). -/
def execCharacterError (s : State) : Host.Outcome State Fault Refusal :=
  .next (characterBroken s)

/-- FRAME_ERROR_ITEM: a frame-error item is taken and answered (R179). -/
def execFrameErrorItem (s : State) : Host.Outcome State Fault Refusal :=
  .next (takeHeadIf Item.isFrameError s)

/-- UNKNOWN_REQUEST: a request with a code outside the table is taken and answered (R179). -/
def execUnknownRequest (s : State) : Host.Outcome State Fault Refusal :=
  .next (takeHeadIf Item.isUnknown s)

/-- REPLY_TRANSMITTED: the last byte of a reply has left LINK_TXD (R179). -/
def execReplyTransmitted (taking : Taking) (s : State) : Host.Outcome State Fault Refusal :=
  .next (serveIf taking (replySent s))

/-- LINK_BYTE_RECEIVED: one byte is received by the frame hunter (R177). -/
def execLinkByteReceived (byte : Byte) (s : State) : Host.Outcome State Fault Refusal :=
  .next (serve (byteReceived byte s))

end Sys2Proof.Machine
end

