-- ==== Sys2Proof/Machine/MatrixRequests.lean ====
section
/-!
DEFINITION. The requests of the mix matrix. One meaning a command; none of them faults or refuses.
-/

namespace Sys2Proof.Machine

/-- SET CROSSPOINT: the request arrives, and is decided when its turn comes (R9). -/
def execSetCrosspoint (tag source bus : Nat) (level : Level) (time : Nat) (s : State) : Host.Outcome State Fault Refusal :=
  .next (arrive tag (.setCrosspoint source bus level time) s)

/-- READ CROSSPOINT: the request arrives, and is decided when its turn comes (R10). -/
def execReadCrosspoint (tag source bus : Nat) (s : State) : Host.Outcome State Fault Refusal :=
  .next (arrive tag (.readCrosspoint source bus) s)

/-- SET BUS MASTER: the request arrives, and is decided when its turn comes (R3). -/
def execSetBusMaster (tag bus : Nat) (level : Level) (s : State) : Host.Outcome State Fault Refusal :=
  .next (arrive tag (.setBusMaster bus level) s)

/-- READ METERS: the request arrives, and is decided when its turn comes (R22). -/
def execReadMeters (tag : Nat) (s : State) : Host.Outcome State Fault Refusal :=
  .next (arrive tag .readMeters s)

end Sys2Proof.Machine
end

