-- ==== Sys2Proof/Machine/MemoryEvents.lean ====
section
/-!
DEFINITION. The ends of a memory transfer. One meaning a command; none of them faults or refuses.
-/

namespace Sys2Proof.Machine

/-- TRANSFER_COMPLETE: the transfer in flight ends, well or with a status failure (R97). -/
def execTransferComplete (failed : Bool) (taking : Taking) (s : State) : Host.Outcome State Fault Refusal :=
  .next (serveIf taking (settle (ifWhole taking startsDue (transferEnd failed s))))

/-- TRANSFER_TIME_LIMIT: the transfer in flight has not completed within its limit (R97). -/
def execTransferTimeLimit (taking : Taking) (s : State) : Host.Outcome State Fault Refusal :=
  .next (serveIf taking (settle (ifWhole taking startsDue (transferTimeOut s))))

end Sys2Proof.Machine
end

