-- ==== Sys2Proof/Machine/MemoryRequests.lean ====
section
/-!
DEFINITION. The requests of the clip memory controller. One meaning a command; none of them faults or refuses.
-/

namespace Sys2Proof.Machine

/-- WRITE PAGE: the request arrives, and is decided when its turn comes (R101). -/
def execWritePage (tag page : Nat) (data : List Byte) (s : State) : Host.Outcome State Fault Refusal :=
  .next (arrive tag (.writePage page data) s)

/-- READ PAGE: the request arrives, and is decided when its turn comes (R103). -/
def execReadPage (tag page : Nat) (s : State) : Host.Outcome State Fault Refusal :=
  .next (arrive tag (.readPage page) s)

/-- ERASE SECTOR: the request arrives, and is decided when its turn comes (R102). -/
def execEraseSector (tag sector : Nat) (s : State) : Host.Outcome State Fault Refusal :=
  .next (arrive tag (.eraseSector sector) s)

/-- WRITE DIRECTORY ENTRY: the request arrives, and is decided when its turn comes (R95). -/
def execWriteDirectoryEntry (tag clip : Nat) (body : DirectoryBody) (s : State) : Host.Outcome State Fault Refusal :=
  .next (arrive tag (.writeDirectoryEntry clip body) s)

/-- READ DIRECTORY ENTRY: the request arrives, and is decided when its turn comes (R96). -/
def execReadDirectoryEntry (tag clip : Nat) (s : State) : Host.Outcome State Fault Refusal :=
  .next (arrive tag (.readDirectoryEntry clip) s)

/-- VERIFY CLIP: the request arrives, and is decided when its turn comes (R104). -/
def execVerifyClip (tag clip : Nat) (s : State) : Host.Outcome State Fault Refusal :=
  .next (arrive tag (.verifyClip clip) s)

/-- SAVE SHOW: the request arrives, and is decided when its turn comes (R106). -/
def execSaveShow (tag : Nat) (s : State) : Host.Outcome State Fault Refusal :=
  .next (arrive tag .saveShow s)

/-- LOAD SHOW: the request arrives, and is decided when its turn comes (R109). -/
def execLoadShow (tag : Nat) (s : State) : Host.Outcome State Fault Refusal :=
  .next (arrive tag .loadShow s)

end Sys2Proof.Machine
end

