-- ==== Sys2Proof/Machine/PageEvents.lean ====
section
/-!
DEFINITION. What falls due on the active page, the call voice and the call timers. One meaning a command; none of them faults or refuses.
-/

namespace Sys2Proof.Machine

/-- ATTACK_TIMER_EXPIRY: the active page's attack is complete (R139). -/
def execAttackTimerExpiry (s : State) : Host.Outcome State Fault Refusal :=
  .next (settle (attackTimerExpiry s))

/-- CALL_VOICE_START: the call voice starts (R144). -/
def execCallVoiceStart (s : State) : Host.Outcome State Fault Refusal :=
  .next (settle (callVoiceStart s))

/-- CLIP_PAGE_END: the CLIP page whose clip has ended ends (R139). -/
def execClipPageEnd (s : State) : Host.Outcome State Fault Refusal :=
  .next (settle (clipPageEnd s))

/-- CALL_TIMER_FIRE: a call timer whose target equals the show clock fires (R169). -/
def execCallTimerFire (timer : Nat) (s : State) : Host.Outcome State Fault Refusal :=
  .next (settle (callTimerFire timer s))

end Sys2Proof.Machine
end

