-- ==== Sys2Proof/Machine/PartRequests.lean ====
section
/-!
DEFINITION. The requests about the part and its events. One meaning a command; none of them faults or refuses.
-/

namespace Sys2Proof.Machine

/-- IDENTIFY: the request arrives, and is decided when its turn comes (R181). -/
def execIdentify (tag : Nat) (s : State) : Host.Outcome State Fault Refusal :=
  .next (arrive tag .identify s)

/-- STATUS: the request arrives, and is decided when its turn comes (R181). -/
def execStatus (tag : Nat) (s : State) : Host.Outcome State Fault Refusal :=
  .next (arrive tag .status s)

/-- TAKE EVENT: the request arrives, and is decided when its turn comes (R184). -/
def execTakeEvent (tag : Nat) (s : State) : Host.Outcome State Fault Refusal :=
  .next (arrive tag .takeEvent s)

/-- SET EVENT MASK: the request arrives, and is decided when its turn comes (R185). -/
def execSetEventMask (tag mask : Nat) (s : State) : Host.Outcome State Fault Refusal :=
  .next (arrive tag (.setEventMask mask) s)

/-- RESET DEVICE: the request arrives, and is decided when its turn comes (R182). -/
def execResetDevice (tag : Nat) (s : State) : Host.Outcome State Fault Refusal :=
  .next (arrive tag .resetDevice s)

end Sys2Proof.Machine
end

