-- ==== Sys2Proof/Machine/PlayerEvents.lean ====
section
/-!
DEFINITION. What falls due on the players. One meaning a command; none of them faults or refuses.
-/

namespace Sys2Proof.Machine

/-- PLAY_START: a pending play whose data is buffered starts (R79). -/
def execPlayStart (player : Nat) (s : State) : Host.Outcome State Fault Refusal :=
  .next (settle (playStart player s))

/-- PLAY_END: a play that has come to its end ends (R83). -/
def execPlayEnd (player : Nat) (s : State) : Host.Outcome State Fault Refusal :=
  .next (settle (playEnd player s))

/-- RETRIGGER_TAIL_END: a retrigger tail that has been played ends (R80). -/
def execRetriggerTailEnd (player : Nat) (s : State) : Host.Outcome State Fault Refusal :=
  .next (settle (retriggerTailEnd player s))

/-- HOLD_TIMER_EXPIRY: a player hold timer that has run out makes the player IDLE (R85). -/
def execHoldTimerExpiry (player : Nat) (s : State) : Host.Outcome State Fault Refusal :=
  .next (settle (holdTimerExpiry player s))

end Sys2Proof.Machine
end

