-- ==== Sys2Proof/Machine/PlayerRequests.lean ====
section
/-!
DEFINITION. The requests of the players. One meaning a command; none of them faults or refuses.
-/

namespace Sys2Proof.Machine

/-- PLAY: the request arrives, and is decided when its turn comes (R77). -/
def execPlay (tag player clip loops : Nat) (level : Level) (attack : Nat) (s : State) : Host.Outcome State Fault Refusal :=
  .next (arrive tag (.play player clip loops level attack) s)

/-- STOP PLAYER: the request arrives, and is decided when its turn comes (R91). -/
def execStopPlayer (tag player release : Nat) (s : State) : Host.Outcome State Fault Refusal :=
  .next (arrive tag (.stopPlayer player release) s)

/-- READ PLAYER: the request arrives, and is decided when its turn comes (R91). -/
def execReadPlayer (tag player : Nat) (s : State) : Host.Outcome State Fault Refusal :=
  .next (arrive tag (.readPlayer player) s)

/-- SET PLAYER: the request arrives, and is decided when its turn comes (R91). -/
def execSetPlayer (tag holdTime : Nat) (s : State) : Host.Outcome State Fault Refusal :=
  .next (arrive tag (.setPlayer holdTime) s)

end Sys2Proof.Machine
end

