-- ==== Sys2Proof/Machine/RelayRequests.lean ====
section
/-!
DEFINITION. The requests of the relay and paging unit. One meaning a command; none of them faults or refuses.
-/

namespace Sys2Proof.Machine

/-- SET ZONE: the request arrives, and is decided when its turn comes (R146). -/
def execSetZone (tag zone : Nat) (body : ZoneBody) (s : State) : Host.Outcome State Fault Refusal :=
  .next (arrive tag (.setZone zone body) s)

/-- READ ZONE: the request arrives, and is decided when its turn comes (R149). -/
def execReadZone (tag zone : Nat) (s : State) : Host.Outcome State Fault Refusal :=
  .next (arrive tag (.readZone zone) s)

/-- PAGE: the request arrives, and is decided when its turn comes (R148). -/
def execPage (tag : Nat) (body : PageBody) (s : State) : Host.Outcome State Fault Refusal :=
  .next (arrive tag (.page body) s)

/-- CANCEL PAGE: the request arrives, and is decided when its turn comes (R148). -/
def execCancelPage (tag number : Nat) (s : State) : Host.Outcome State Fault Refusal :=
  .next (arrive tag (.cancelPage number) s)

/-- READ PAGE QUEUE: the request arrives, and is decided when its turn comes (R149). -/
def execReadPageQueue (tag : Nat) (s : State) : Host.Outcome State Fault Refusal :=
  .next (arrive tag .readPageQueue s)

/-- SET PAGING: the request arrives, and is decided when its turn comes (R147). -/
def execSetPaging (tag : Nat) (body : PagingBody) (s : State) : Host.Outcome State Fault Refusal :=
  .next (arrive tag (.setPaging body) s)

end Sys2Proof.Machine
end

