-- ==== Sys2Proof/Machine/Resets.lean ====
section
/-!
DEFINITION. The resets of the part. One meaning a command; none of them faults or refuses.
-/

namespace Sys2Proof.Machine

/-- POWER_ON: power-on or RESET_N puts every block at its power-on values and the start-up show load begins (R186). -/
def execPowerOn (inputs : ResetInputs) (s : State) : Host.Outcome State Fault Refusal :=
  .next (resetPart inputs s)

/-- DEVICE_RESET: the reset that a taken RESET DEVICE brings once its reply has left (R182). -/
def execDeviceReset (inputs : ResetInputs) (s : State) : Host.Outcome State Fault Refusal :=
  .next (deviceReset inputs s)

end Sys2Proof.Machine
end

