-- ==== Sys2Proof/Machine/ShowRequests.lean ====
section
/-!
DEFINITION. The requests of the sequencer. One meaning a command; none of them faults or refuses.
-/

namespace Sys2Proof.Machine

/-- ENTER SHOW: the request arrives, and is decided when its turn comes (R46). -/
def execEnterShow (tag : Nat) (s : State) : Host.Outcome State Fault Refusal :=
  .next (arrive tag .enterShow s)

/-- LEAVE SHOW: the request arrives, and is decided when its turn comes (R46). -/
def execLeaveShow (tag : Nat) (s : State) : Host.Outcome State Fault Refusal :=
  .next (arrive tag .leaveShow s)

/-- RESET SHOW: the request arrives, and is decided when its turn comes (R68). -/
def execResetShow (tag : Nat) (s : State) : Host.Outcome State Fault Refusal :=
  .next (arrive tag .resetShow s)

/-- GO: the request arrives, and is decided when its turn comes (R50). -/
def execGo (tag : Nat) (s : State) : Host.Outcome State Fault Refusal :=
  .next (arrive tag .go s)

/-- FIRE: the request arrives, and is decided when its turn comes (R56). -/
def execFire (tag : Nat) (number : CueNumber) (s : State) : Host.Outcome State Fault Refusal :=
  .next (arrive tag (.fire number) s)

/-- LOCATE: the request arrives, and is decided when its turn comes (R57). -/
def execLocate (tag : Nat) (number : CueNumber) (mode honourSkip : Nat) (s : State) : Host.Outcome State Fault Refusal :=
  .next (arrive tag (.locate number mode honourSkip) s)

/-- READ RUNNING: the request arrives, and is decided when its turn comes (R66). -/
def execReadRunning (tag : Nat) (s : State) : Host.Outcome State Fault Refusal :=
  .next (arrive tag .readRunning s)

/-- SET SEQUENCER: the request arrives, and is decided when its turn comes (R67). -/
def execSetSequencer (tag skipCut lockout : Nat) (s : State) : Host.Outcome State Fault Refusal :=
  .next (arrive tag (.setSequencer skipCut lockout) s)

end Sys2Proof.Machine
end

