-- ==== Sys2Proof/Machine/Time.lean ====
section
/-!
DEFINITION. The steps of the sample clock, its selector and the governors' window. One meaning a command; none of them faults or refuses.
-/

namespace Sys2Proof.Machine

/-- MILLISECOND_BOUNDARY: a millisecond boundary, with the pin levels sampled and the order chosen (R162). -/
def execMillisecondBoundary (inputs : BoundaryInputs) (order : BoundaryOrder) (taking : Taking) (s : State) : Host.Outcome State Fault Refusal :=
  .next (millisecondBoundary inputs order taking s)

/-- SAMPLE_PERIOD: a sample period, with the samples of the 32 input channels and the word clock's edge (R19, R163). -/
def execSamplePeriod (inputs : SampleInputs) (taking : Taking) (s : State) : Host.Outcome State Fault Refusal :=
  .next (samplePeriod inputs taking s)

/-- GOVERNOR_WINDOW_END: a window of 100 ms ends and every governor judges it (R114). -/
def execGovernorWindowEnd (s : State) : Host.Outcome State Fault Refusal :=
  .next (governorWindowEnd s)

/-- CLOCK_LOST: the absence count reaches 1 ms in LOCKED (R163). -/
def execClockLost (s : State) : Host.Outcome State Fault Refusal :=
  .next (clockLost s)

/-- CLOCK_RESTORED: a valid edge after the presence count has reached 100 ms in FREE (R163). -/
def execClockRestored (s : State) : Host.Outcome State Fault Refusal :=
  .next (clockRestored s)

/-- WORD_CLOCK_PRESENCE_BROKEN: a word-clock edge is missing or invalid (R163). -/
def execWordClockPresenceBroken (s : State) : Host.Outcome State Fault Refusal :=
  .next (presenceBroken s)

end Sys2Proof.Machine
end

