-- ==== Sys2Proof/Machine/TimingRequests.lean ====
section
/-!
DEFINITION. The requests of the timing unit. One meaning a command; none of them faults or refuses.
-/

namespace Sys2Proof.Machine

/-- READ CLOCK: the request arrives, and is decided when its turn comes (R174). -/
def execReadClock (tag : Nat) (s : State) : Host.Outcome State Fault Refusal :=
  .next (arrive tag .readClock s)

/-- ARM TIMER: the request arrives, and is decided when its turn comes (R168). -/
def execArmTimer (tag timer timeKind time : Nat) (payload : Payload) (s : State) : Host.Outcome State Fault Refusal :=
  .next (arrive tag (.armTimer timer timeKind time payload) s)

/-- DISARM TIMER: the request arrives, and is decided when its turn comes (R170). -/
def execDisarmTimer (tag timer : Nat) (s : State) : Host.Outcome State Fault Refusal :=
  .next (arrive tag (.disarmTimer timer) s)

/-- READ TIMERS: the request arrives, and is decided when its turn comes (R170). -/
def execReadTimers (tag : Nat) (s : State) : Host.Outcome State Fault Refusal :=
  .next (arrive tag .readTimers s)

/-- READ MARKS: the request arrives, and is decided when its turn comes (R171). -/
def execReadMarks (tag : Nat) (s : State) : Host.Outcome State Fault Refusal :=
  .next (arrive tag .readMarks s)

/-- READ GO RECORD: the request arrives, and is decided when its turn comes (R172). -/
def execReadGoRecord (tag : Nat) (s : State) : Host.Outcome State Fault Refusal :=
  .next (arrive tag .readGoRecord s)

/-- SET LINE: the request arrives, and is decided when its turn comes (R165). -/
def execSetLine (tag line : Nat) (body : LineBody) (s : State) : Host.Outcome State Fault Refusal :=
  .next (arrive tag (.setLine line body) s)

end Sys2Proof.Machine
end

