-- ==== Sys2Proof/Machine/Dispatch.lean ====
section
/-!
DEFINITION. The dispatch: one arm per command, each a direct call of its meaning.
-/

namespace Sys2Proof.Machine

def exec (i : Instr) (s : State) : Host.Outcome State Fault Refusal :=
  match i with
  | .powerOn inputs => Sys2Proof.Machine.execPowerOn inputs s
  | .millisecondBoundary inputs order taking => Sys2Proof.Machine.execMillisecondBoundary inputs order taking s
  | .samplePeriod inputs taking => Sys2Proof.Machine.execSamplePeriod inputs taking s
  | .fadeEnd slot => Sys2Proof.Machine.execFadeEnd slot s
  | .clockLost => Sys2Proof.Machine.execClockLost s
  | .clockRestored => Sys2Proof.Machine.execClockRestored s
  | .lineAssertion line => Sys2Proof.Machine.execLineAssertion line s
  | .lineRelease line => Sys2Proof.Machine.execLineRelease line s
  | .debounceUnblock line => Sys2Proof.Machine.execDebounceUnblock line s
  | .prewaitEnd slot => Sys2Proof.Machine.execPrewaitEnd slot s
  | .actionFire slot index => Sys2Proof.Machine.execActionFire slot index s
  | .postwaitExpiry slot => Sys2Proof.Machine.execPostwaitExpiry slot s
  | .playStart player => Sys2Proof.Machine.execPlayStart player s
  | .playEnd player => Sys2Proof.Machine.execPlayEnd player s
  | .retriggerTailEnd player => Sys2Proof.Machine.execRetriggerTailEnd player s
  | .holdTimerExpiry player => Sys2Proof.Machine.execHoldTimerExpiry player s
  | .transferComplete failed taking => Sys2Proof.Machine.execTransferComplete failed taking s
  | .transferTimeLimit taking => Sys2Proof.Machine.execTransferTimeLimit taking s
  | .governorWindowEnd => Sys2Proof.Machine.execGovernorWindowEnd s
  | .attackTimerExpiry => Sys2Proof.Machine.execAttackTimerExpiry s
  | .callVoiceStart => Sys2Proof.Machine.execCallVoiceStart s
  | .clipPageEnd => Sys2Proof.Machine.execClipPageEnd s
  | .callTimerFire timer => Sys2Proof.Machine.execCallTimerFire timer s
  | .frameReceived frame taking => Sys2Proof.Machine.execFrameReceived frame taking s
  | .frameLengthError second taking => Sys2Proof.Machine.execFrameLengthError second taking s
  | .frameGapTimeout => Sys2Proof.Machine.execFrameGapTimeout s
  | .characterError => Sys2Proof.Machine.execCharacterError s
  | .frameErrorItem => Sys2Proof.Machine.execFrameErrorItem s
  | .unknownRequest => Sys2Proof.Machine.execUnknownRequest s
  | .replyTransmitted taking => Sys2Proof.Machine.execReplyTransmitted taking s
  | .deviceReset inputs => Sys2Proof.Machine.execDeviceReset inputs s
  | .identify tag => Sys2Proof.Machine.execIdentify tag s
  | .status tag => Sys2Proof.Machine.execStatus tag s
  | .takeEvent tag => Sys2Proof.Machine.execTakeEvent tag s
  | .setEventMask tag mask => Sys2Proof.Machine.execSetEventMask tag mask s
  | .resetDevice tag => Sys2Proof.Machine.execResetDevice tag s
  | .enterShow tag => Sys2Proof.Machine.execEnterShow tag s
  | .leaveShow tag => Sys2Proof.Machine.execLeaveShow tag s
  | .resetShow tag => Sys2Proof.Machine.execResetShow tag s
  | .holdOn tag => Sys2Proof.Machine.execHoldOn tag s
  | .holdOff tag => Sys2Proof.Machine.execHoldOff tag s
  | .holdReport tag => Sys2Proof.Machine.execHoldReport tag s
  | .showStopOn tag => Sys2Proof.Machine.execShowStopOn tag s
  | .showStopOff tag => Sys2Proof.Machine.execShowStopOff tag s
  | .showStopReport tag => Sys2Proof.Machine.execShowStopReport tag s
  | .go tag => Sys2Proof.Machine.execGo tag s
  | .fire tag number => Sys2Proof.Machine.execFire tag number s
  | .locate tag number mode honourSkip => Sys2Proof.Machine.execLocate tag number mode honourSkip s
  | .readRunning tag => Sys2Proof.Machine.execReadRunning tag s
  | .setSequencer tag skipCut lockout => Sys2Proof.Machine.execSetSequencer tag skipCut lockout s
  | .writeCue tag cue => Sys2Proof.Machine.execWriteCue tag cue s
  | .readCue tag number => Sys2Proof.Machine.execReadCue tag number s
  | .deleteCue tag number => Sys2Proof.Machine.execDeleteCue tag number s
  | .listCues tag number => Sys2Proof.Machine.execListCues tag number s
  | .writeSnapshot tag id entries => Sys2Proof.Machine.execWriteSnapshot tag id entries s
  | .readSnapshot tag id => Sys2Proof.Machine.execReadSnapshot tag id s
  | .deleteSnapshot tag id => Sys2Proof.Machine.execDeleteSnapshot tag id s
  | .preflight tag verify => Sys2Proof.Machine.execPreflight tag verify s
  | .readPreflight tag => Sys2Proof.Machine.execReadPreflight tag s
  | .setCrosspoint tag source bus level time => Sys2Proof.Machine.execSetCrosspoint tag source bus level time s
  | .readCrosspoint tag source bus => Sys2Proof.Machine.execReadCrosspoint tag source bus s
  | .setBusMaster tag bus level => Sys2Proof.Machine.execSetBusMaster tag bus level s
  | .readMeters tag => Sys2Proof.Machine.execReadMeters tag s
  | .setGovernor tag governor body => Sys2Proof.Machine.execSetGovernor tag governor body s
  | .readGovernor tag governor => Sys2Proof.Machine.execReadGovernor tag governor s
  | .restartGovernor tag governor => Sys2Proof.Machine.execRestartGovernor tag governor s
  | .play tag player clip loops level attack => Sys2Proof.Machine.execPlay tag player clip loops level attack s
  | .stopPlayer tag player release => Sys2Proof.Machine.execStopPlayer tag player release s
  | .readPlayer tag player => Sys2Proof.Machine.execReadPlayer tag player s
  | .setPlayer tag holdTime => Sys2Proof.Machine.execSetPlayer tag holdTime s
  | .writePage tag page data => Sys2Proof.Machine.execWritePage tag page data s
  | .readPage tag page => Sys2Proof.Machine.execReadPage tag page s
  | .eraseSector tag sector => Sys2Proof.Machine.execEraseSector tag sector s
  | .writeDirectoryEntry tag clip body => Sys2Proof.Machine.execWriteDirectoryEntry tag clip body s
  | .readDirectoryEntry tag clip => Sys2Proof.Machine.execReadDirectoryEntry tag clip s
  | .verifyClip tag clip => Sys2Proof.Machine.execVerifyClip tag clip s
  | .saveShow tag => Sys2Proof.Machine.execSaveShow tag s
  | .loadShow tag => Sys2Proof.Machine.execLoadShow tag s
  | .setZone tag zone body => Sys2Proof.Machine.execSetZone tag zone body s
  | .readZone tag zone => Sys2Proof.Machine.execReadZone tag zone s
  | .page tag body => Sys2Proof.Machine.execPage tag body s
  | .cancelPage tag number => Sys2Proof.Machine.execCancelPage tag number s
  | .readPageQueue tag => Sys2Proof.Machine.execReadPageQueue tag s
  | .setPaging tag body => Sys2Proof.Machine.execSetPaging tag body s
  | .readClock tag => Sys2Proof.Machine.execReadClock tag s
  | .armTimer tag timer timeKind time payload => Sys2Proof.Machine.execArmTimer tag timer timeKind time payload s
  | .disarmTimer tag timer => Sys2Proof.Machine.execDisarmTimer tag timer s
  | .readTimers tag => Sys2Proof.Machine.execReadTimers tag s
  | .readMarks tag => Sys2Proof.Machine.execReadMarks tag s
  | .readGoRecord tag => Sys2Proof.Machine.execReadGoRecord tag s
  | .setLine tag line body => Sys2Proof.Machine.execSetLine tag line body s
  | .setStop tag body => Sys2Proof.Machine.execSetStop tag body s
  | .wordClockPresenceBroken => Sys2Proof.Machine.execWordClockPresenceBroken s
  | .linkByteReceived byte => Sys2Proof.Machine.execLinkByteReceived byte s

end Sys2Proof.Machine
end

