-- ==== Sys2Proof/Machine/Step.lean ====
section
/-!
DEFINITION. The step of the block: the command at the front of the queue is taken.
-/

namespace Sys2Proof.Machine

/-- The state with the queue's first command taken out. -/
def State.withQueue (s : State) (rest : List Instr) : State := { s with pending := rest }

/-- One step: the command at the front of the queue is taken with the queue's rest; on an empty queue the block idles (log
entry 11). -/
def step (s : State) : Host.Outcome State Fault Refusal :=
  match s.pending with
  | [] => .next s
  | c :: rest => exec c (s.withQueue rest)

/-- The state with the command that a word spells at the front of its queue. The table gives no row any bits, so no word
spells a command and the state stands (log entry 1). -/
def State.withFetchWord (s : State) (nbits w : Nat) : State :=
  match decodeTableWord nbits w with
  | some c => s.withQueue (c :: s.pending)
  | none => s

end Sys2Proof.Machine
end

