-- ==== Sys2Proof/WellFormed.lean ====
section
/-!
DEFINITION. Well-formed commands: every operand at a value its place can hold. A request's fields fit the widths of R187;
slots, players, lines and timers are ones the part has; samples are 24-bit.
-/

namespace Sys2Proof

/-- An unsigned value of `bits` bits (R187). -/
def fits (bits n : Nat) : Bool := decide (n < 2 ^ bits)

/-- A level as a body carries it: signed, 16 bits (R187). -/
def levelFits (x : Level) : Bool := decide (-32768 ≤ x ∧ x ≤ 32767)

/-- A cue number as a body carries it: 16 bits and 8 bits (R187). -/
def cueNumberFits (n : CueNumber) : Bool := fits 16 n.major && fits 8 n.point

/-- A target as a body carries it; an invalid one has a kind byte above 1 (R187). -/
def targetFits : Target → Bool
  | .groups mask => fits 8 mask
  | .zone n => fits 8 n
  | .invalid kind value => decide (2 ≤ kind) && fits 8 kind && fits 8 value

/-- A payload as a body carries it; an invalid one has a kind byte above 1 (R187). -/
def payloadFits : Payload → Bool
  | .eventOnly => true
  | .call clip target => fits 16 clip && targetFits target
  | .invalid kind clip target => decide (2 ≤ kind) && fits 8 kind && fits 16 clip && targetFits target

/-- An action's fields as a cue record carries them; an unknown kind byte is above 7 (R187). -/
def workFits : Work → Bool
  | .fade source bus level time => fits 8 source && fits 8 bus && levelFits level && fits 32 time
  | .snap id time => fits 8 id && fits 32 time
  | .play n clip loops level attack =>
    fits 8 n && fits 16 clip && fits 16 loops && levelFits level && fits 32 attack
  | .stop n release => fits 8 n && fits 32 release
  | .call clip target cls => fits 16 clip && targetFits target && fits 8 cls
  | .govern n level => fits 8 n && levelFits level
  | .timer n delay payload => fits 8 n && fits 32 delay && payloadFits payload
  | .mark id => fits 8 id
  | .unknown kind => decide (8 ≤ kind) && fits 8 kind

/-- An action as a cue record carries it (R187). -/
def actionFits (a : Action) : Bool := fits 32 a.offset && workFits a.work

/-- A cue record that a frame can carry: at most 64 actions go into 1040 bytes (R177, R187). -/
def cueFits (c : CueBody) : Bool :=
  cueNumberFits c.number && fits 8 c.follow && fits 32 c.prewait && fits 32 c.postwait
    && decide (c.actions.length ≤ 64) && c.actions.all actionFits

/-- A snapshot entry as a body carries it (R187). -/
def entryFits (e : SnapEntry) : Bool := fits 8 e.source && fits 8 e.bus && levelFits e.level

/-- A SET GOVERNOR body's fields (R187). -/
def governorFits (b : GovernorBody) : Bool :=
  fits 8 b.enable && levelFits b.target && levelFits b.tolerance && levelFits b.stepMax && levelFits b.trimMin
    && levelFits b.trimMax && levelFits b.ceiling

/-- A directory entry's fields (R187). -/
def directoryFits (d : DirectoryBody) : Bool :=
  fits 8 d.present && fits 32 d.firstPage && fits 32 d.length && fits 8 d.channels && fits 8 d.loopFlag
    && fits 32 d.loopStart && fits 32 d.loopEnd

/-- A SET ZONE body's fields (R187). -/
def zoneFits (b : ZoneBody) : Bool :=
  fits 8 b.enabled && fits 8 b.group && levelFits b.relay && levelFits b.page && levelFits b.depth

/-- A PAGE body's fields (R187). -/
def pageFits (b : PageBody) : Bool := fits 8 b.cls && fits 8 b.sourceKind && fits 16 b.clip && targetFits b.target

/-- A SET PAGING body's fields (R187). -/
def pagingFits (b : PagingBody) : Bool :=
  fits 8 b.talkSource && levelFits b.talkLevel && fits 8 b.talkGroups && fits 16 b.attack && fits 16 b.release

/-- A SET LINE body's fields (R187). -/
def lineFits (b : LineBody) : Bool := fits 8 b.activeLevel && fits 8 b.debounce && fits 8 b.mode

/-- A SET STOP body's fields (R187). -/
def stopFits (b : StopBody) : Bool :=
  levelFits b.depth && fits 16 b.attack && fits 16 b.release && fits 16 b.announceBuses && levelFits b.announceLevel
    && levelFits b.foldbackLevel

/-- A request that a frame can carry (R187). -/
def requestFits : Request → Bool
  | .setEventMask mask => fits 24 mask
  | .hold action => fits 8 action
  | .showStop action => fits 8 action
  | .fire number => cueNumberFits number
  | .locate number mode honourSkip => cueNumberFits number && fits 8 mode && fits 8 honourSkip
  | .setSequencer skipCut lockout => fits 8 skipCut && fits 16 lockout
  | .writeCue cue => cueFits cue
  | .readCue number => cueNumberFits number
  | .deleteCue number => cueNumberFits number
  | .listCues number => cueNumberFits number
  | .writeSnapshot id entries => fits 8 id && decide (entries.length ≤ 255) && entries.all entryFits
  | .readSnapshot id => fits 8 id
  | .deleteSnapshot id => fits 8 id
  | .preflight verify => fits 8 verify
  | .setCrosspoint source bus level time => fits 8 source && fits 8 bus && levelFits level && fits 32 time
  | .readCrosspoint source bus => fits 8 source && fits 8 bus
  | .setBusMaster bus level => fits 8 bus && levelFits level
  | .setGovernor n b => fits 8 n && governorFits b
  | .readGovernor n => fits 8 n
  | .restartGovernor n => fits 8 n
  | .play n clip loops level attack =>
    fits 8 n && fits 16 clip && fits 16 loops && levelFits level && fits 32 attack
  | .stopPlayer n release => fits 8 n && fits 32 release
  | .readPlayer n => fits 8 n
  | .setPlayer t => fits 32 t
  | .writePage p data => fits 32 p && decide (data.length = 1024)
  | .readPage p => fits 32 p
  | .eraseSector k => fits 32 k
  | .writeDirectoryEntry clip b => fits 16 clip && directoryFits b
  | .readDirectoryEntry clip => fits 16 clip
  | .verifyClip clip => fits 16 clip
  | .setZone n b => fits 8 n && zoneFits b
  | .readZone n => fits 8 n
  | .page b => pageFits b
  | .cancelPage n => fits 16 n
  | .setPaging b => pagingFits b
  | .armTimer n kind time payload => fits 8 n && fits 8 kind && fits 32 time && payloadFits payload
  | .disarmTimer n => fits 8 n
  | .setLine n b => fits 8 n && lineFits b
  | .setStop b => stopFits b
  | .identify | .status | .takeEvent | .resetDevice | .enterShow | .leaveShow | .resetShow | .go | .readRunning
  | .readPreflight | .readMeters | .saveShow | .loadShow | .readPageQueue | .readClock | .readTimers | .readMarks
  | .readGoRecord => true

/-- The tag and the request of a request command; none for the part's own steps. -/
def requestOf : Instr → Option (Nat × Request)
  | .identify tag => some (tag, .identify)
  | .status tag => some (tag, .status)
  | .takeEvent tag => some (tag, .takeEvent)
  | .setEventMask tag mask => some (tag, .setEventMask mask)
  | .resetDevice tag => some (tag, .resetDevice)
  | .enterShow tag => some (tag, .enterShow)
  | .leaveShow tag => some (tag, .leaveShow)
  | .resetShow tag => some (tag, .resetShow)
  | .holdOn tag => some (tag, .hold 0)
  | .holdOff tag => some (tag, .hold 1)
  | .holdReport tag => some (tag, .hold 2)
  | .showStopOn tag => some (tag, .showStop 0)
  | .showStopOff tag => some (tag, .showStop 1)
  | .showStopReport tag => some (tag, .showStop 2)
  | .go tag => some (tag, .go)
  | .fire tag number => some (tag, .fire number)
  | .locate tag number mode honourSkip => some (tag, .locate number mode honourSkip)
  | .readRunning tag => some (tag, .readRunning)
  | .setSequencer tag skipCut lockout => some (tag, .setSequencer skipCut lockout)
  | .writeCue tag cue => some (tag, .writeCue cue)
  | .readCue tag number => some (tag, .readCue number)
  | .deleteCue tag number => some (tag, .deleteCue number)
  | .listCues tag number => some (tag, .listCues number)
  | .writeSnapshot tag id entries => some (tag, .writeSnapshot id entries)
  | .readSnapshot tag id => some (tag, .readSnapshot id)
  | .deleteSnapshot tag id => some (tag, .deleteSnapshot id)
  | .preflight tag verify => some (tag, .preflight verify)
  | .readPreflight tag => some (tag, .readPreflight)
  | .setCrosspoint tag source bus level time => some (tag, .setCrosspoint source bus level time)
  | .readCrosspoint tag source bus => some (tag, .readCrosspoint source bus)
  | .setBusMaster tag bus level => some (tag, .setBusMaster bus level)
  | .readMeters tag => some (tag, .readMeters)
  | .setGovernor tag n b => some (tag, .setGovernor n b)
  | .readGovernor tag n => some (tag, .readGovernor n)
  | .restartGovernor tag n => some (tag, .restartGovernor n)
  | .play tag n clip loops level attack => some (tag, .play n clip loops level attack)
  | .stopPlayer tag n release => some (tag, .stopPlayer n release)
  | .readPlayer tag n => some (tag, .readPlayer n)
  | .setPlayer tag t => some (tag, .setPlayer t)
  | .writePage tag p data => some (tag, .writePage p data)
  | .readPage tag p => some (tag, .readPage p)
  | .eraseSector tag k => some (tag, .eraseSector k)
  | .writeDirectoryEntry tag clip b => some (tag, .writeDirectoryEntry clip b)
  | .readDirectoryEntry tag clip => some (tag, .readDirectoryEntry clip)
  | .verifyClip tag clip => some (tag, .verifyClip clip)
  | .saveShow tag => some (tag, .saveShow)
  | .loadShow tag => some (tag, .loadShow)
  | .setZone tag n b => some (tag, .setZone n b)
  | .readZone tag n => some (tag, .readZone n)
  | .page tag b => some (tag, .page b)
  | .cancelPage tag n => some (tag, .cancelPage n)
  | .readPageQueue tag => some (tag, .readPageQueue)
  | .setPaging tag b => some (tag, .setPaging b)
  | .readClock tag => some (tag, .readClock)
  | .armTimer tag n kind time payload => some (tag, .armTimer n kind time payload)
  | .disarmTimer tag n => some (tag, .disarmTimer n)
  | .readTimers tag => some (tag, .readTimers)
  | .readMarks tag => some (tag, .readMarks)
  | .readGoRecord tag => some (tag, .readGoRecord)
  | .setLine tag n b => some (tag, .setLine n b)
  | .setStop tag b => some (tag, .setStop b)
  | .powerOn _ | .millisecondBoundary _ _ _ | .samplePeriod _ _ | .fadeEnd _ | .clockLost | .clockRestored
  | .lineAssertion _ | .lineRelease _ | .debounceUnblock _ | .prewaitEnd _ | .actionFire _ _ | .postwaitExpiry _
  | .playStart _ | .playEnd _ | .retriggerTailEnd _ | .holdTimerExpiry _ | .transferComplete _ _
  | .transferTimeLimit _ | .governorWindowEnd | .attackTimerExpiry | .callVoiceStart | .clipPageEnd
  | .callTimerFire _ | .frameReceived _ _ | .frameLengthError _ _ | .frameGapTimeout | .characterError
  | .frameErrorItem | .unknownRequest | .replyTransmitted _ | .deviceReset _ | .wordClockPresenceBroken
  | .linkByteReceived _ => none

/-- An operand that numbers one of `count` things from 1. -/
def numbers (count n : Nat) : Bool := decide (1 ≤ n ∧ n ≤ count)

/-- A 24-bit signed sample (00_scope.md, Gain codes and samples). -/
def sampleFits (x : Int) : Bool := decide (-8388608 ≤ x ∧ x ≤ 8388607)

/-- The operands of the part's own steps name things the part has (R4, R59, R72, R166, R168, R23, R177). -/
def stepFits : Instr → Bool
  | .samplePeriod inputs _ => decide (inputs.channels.length = 32) && inputs.channels.all sampleFits
  | .fadeEnd slot => numbers 128 slot
  | .lineAssertion line => numbers 4 line
  | .lineRelease line => numbers 4 line
  | .debounceUnblock line => numbers 4 line
  | .prewaitEnd slot => numbers 16 slot
  | .actionFire slot index => numbers 16 slot && numbers 16 index
  | .postwaitExpiry slot => numbers 16 slot
  | .playStart player => numbers 8 player
  | .playEnd player => numbers 8 player
  | .retriggerTailEnd player => numbers 8 player
  | .holdTimerExpiry player => numbers 8 player
  | .callTimerFire timer => numbers 8 timer
  | .frameReceived frame _ => decide (frame.body.length ≤ 1040)
  | _ => true

/-- A well-formed command: a request with a tag of one byte and fields that fit a frame, or a step of the part with operands
that name things it has. -/
def Instr.wf (i : Instr) : Bool :=
  match requestOf i with
  | some (tag, r) => fits 8 tag && requestFits r
  | none => stepFits i

end Sys2Proof
end

