-- ==== Sys2Proof/Safety.lean ====
section
/-!
DEFINITION. The laws of the device as predicates over State, and the predicates in which statements about commands are
written.
-/

namespace Sys2Proof.Machine

/-! ### How a request meets its owner -/

/-- A request that arrives is taken at once: no item waits and one may be taken (R179). -/
def LinkReady (s : State) : Prop := s.clink.queue = [] ∧ mayTake s.clink = true

/-- A request that arrives is handed to its owner at once: the link is ready and no show load is in progress (R179). -/
def LinkOpen (s : State) : Prop := LinkReady s ∧ loading s = false

/-- The command's next state is `u` with one reply more in the reply queue, settled: SEQ has taken the consequences of the
completions in it and the arbiter has decided (R62 to R64, R98, R179). -/
def Decided (i : Instr) (s : State) (code tag : Nat) (status : Status) (contents : List Field) (u : State) : Prop :=
  exec i s = .next (settle (sendReply code tag status contents u))

/-- The state with nothing but the frame hunter touched: a request's frame has just been received (R177). -/
abbrev heard (s : State) : State := hunterHome s

/-- The commands of a list executed one after the other, as far as they answer a next state. -/
def execAll : List Instr → State → Host.Outcome State Fault Refusal
  | [], s => .next s
  | i :: rest, s =>
    match exec i s with
    | .next t => execAll rest t
    | .fault f => .fault f
    | .refused r => .refused r

/-- The frame that carries a request, sound: kind 01h and the CRC of the bytes it covers (R177, R187). -/
def requestFrameOf (tag : Nat) (r : Request) : Frame :=
  let f : Frame :=
    { kind := 1, code := BitVec.ofNat 8 (requestCode r), tag := BitVec.ofNat 8 tag, body := requestBody r, crc := 0 }
  { f with crc := crcOf (frameCovered f) }

/-- A frame's bytes on the link: marker, length, kind, code, tag, body and CRC, low byte first (R177, R187). -/
def frameOnLink (f : Frame) : List Byte :=
  0xC5#8 :: (frameCovered f ++ bytesOf 2 f.crc.toNat)

/-- An event stands recorded at `t`, unless its kind was masked at `s`: its slot is occupied with this detail, its latest time
the show clock of `t` (R183, R185). -/
def Recorded (kind : EventKind) (source : Nat) (detail : List Byte) (s t : State) : Prop :=
  s.evr.mask.getLsbD (kind.number - 1) = false →
    ∃ e, sparseFind t.evr.slots (kind.number * 32 + source) = some e
      ∧ e.detail = (detail ++ List.replicate 8 0).take 8 ∧ e.latest = t.tmu.clock

/-! ### What a rule computes, read from one state -/

/-- The faults an action has, in their order, with the results of the clips verified so far (R40, R41). -/
def faultsOf (s : State) (verified : Sparse Bool) (w : Work) : List FaultKind :=
  match w with
  | .snap id _ => if sparseFind s.cst.snapshots id = none then [.missingSnapshot] else []
  | _ =>
    match clipNamed w with
    | none => []
    | some (clip, target) =>
      (if clipEntry s clip = none then [.missingClip]
        else if sparseFind verified clip = some false then [.badClipCrc] else [])
        ++ (match target with
            | none => []
            | some t => if targetSelectsAny t s = true then [] else [.emptyTarget])

/-- A report with some faults of an action more: all counted, the first 8 recorded (R42). -/
def Report.withFaults (r : Report) (cue : CueNumber) (action : Nat) (found : List FaultKind) : Report :=
  { r with
    total := min 65535 (r.total + found.length)
    records := (r.records ++ found.map fun k => (⟨cue, action, k⟩ : FaultRecord)).take 8 }

/-- The preflight's walk past its action: to the next one, or to the next cue, which is then one more walked (R40). -/
def Walk.past (w : Walk) (count : Nat) : Walk :=
  if w.action < count then { w with action := w.action + 1 } else { w with cue := w.cue + 1, action := 1 }

/-- A player's two output samples: the frame at its position, or of its tail, under the envelope code and the ramp, and zero
where it has none (R81, R86, R87). -/
def playerFrame (s : State) (n : Nat) : Int × Int :=
  let p := playerOf s n
  let out (q : Nat) (c : Int) : Int :=
    max (-8388608) (min 8388607 (roundHalfAway (c * p.code.at s.mix.sample * q) (480 * 2 ^ 22)))
  match p.state with
  | .playing | .releasingStop =>
    match p.copy, p.buffer with
    | some e, b :: _ =>
      if p.position < e.length ∧ b.number = p.position / e.perBlock then
        let q := match p.ramp with
          | none => 480
          | some r => r + 1
        (out q (b.frame e p.position).1, out q (b.frame e p.position).2)
      else (0, 0)
    | _, _ => (0, 0)
  | .releasingRetrigger | .pausedPlaying | .pausedReleasing =>
    match p.tail with
    | [] => (0, 0)
    | f :: rest => (out rest.length f.1, out rest.length f.2)
  | .idle | .loading | .readyPreload | .readyHold => (0, 0)

/-- The page-bus sample: the talk input under the talk gain for a LIVE page, the clip's frame for a CLIP page, stereo halved,
and zero where no page is active (R132, R144, R145). -/
def pageSample (inputs : List Int) (s : State) : Int :=
  match s.rpu.active with
  | none => 0
  | some a =>
    match a.page.source with
    | .live =>
      max (-8388608) (min 8388607
        (roundHalfAway (inputs.getD (s.rpu.settings.talkSource - 1) 0 * s.rpu.talk.at s.mix.sample) (2 ^ 22)))
    | .clip _ =>
      match s.rpu.voice.state, s.rpu.voice.copy, s.rpu.voice.buffer with
      | .playing, some e, b :: _ =>
        if s.rpu.voice.position < e.length ∧ b.number = s.rpu.voice.position / e.perBlock then
          let f := b.frame e s.rpu.voice.position
          if e.channels = 2 then roundHalfAway (f.1 + f.2) 2 else f.1
        else 0
      | _, _, _ => 0

/-- Player `n` wants block `k` of the clip `e` describes: it fetches, has room, and its fetch points there (R98). -/
def PlayerWants (s : State) (n k : Nat) (e : DirEntry) : Prop :=
  let p := playerOf s n
  1 ≤ n ∧ n ≤ 8 ∧ p.state ≠ .idle ∧ p.state ≠ .releasingRetrigger ∧ p.buffer.length < 4 ∧ p.copy = some e
    ∧ p.fetchNext = some k

/-- The call voice wants block `k` of the clip `e` describes (R98, R144). -/
def VoiceWants (s : State) (k : Nat) (e : DirEntry) : Prop :=
  s.rpu.voice.state ≠ .idle ∧ s.rpu.voice.buffer.length < 4 ∧ s.rpu.voice.copy = some e ∧ s.rpu.voice.fetchNext = some k

/-- What a duck value comes to under a new depth, before an envelope is started from it (R146, R159). -/
def Duck.within (depth : Level) (d : Duck) : Duck := { value := max depth (min 0 d.value), run := none }

/-! ### The running-cue table under a GO or a FIRE -/

/-- SEQ has no consequence to take: whatever entry is DONE with nothing outstanding has a postwait that runs (R63, R64). -/
def QuietSeq (s : State) : Prop :=
  ∀ e ∈ s.seq.entries, e.2.phase = .done → e.2.outstanding = 0 →
    e.2.postwait ≠ .absent ∧ e.2.postwait ≠ .waiting ∧ e.2.postwait ≠ .ended

/-- The table once the entry that runs a cue, if there is one, has been ended early (R54). -/
def tableWithout (s : State) (cue : CueNumber) : Sparse Entry :=
  match entryRunning s cue with
  | none => s.seq.entries
  | some j => sparsePut s.seq.entries j none

/-- The owner of a play or a recall once the entry that runs a cue, if there is one, has released it (R15, R54, R89). -/
def ownerWithout (s : State) (cue : CueNumber) (owner : Option Owner) : Option Owner :=
  match entryRunning s cue with
  | none => owner
  | some j => owner.filter fun o => o.slot != j

/-- The fade slots once the entry that runs a cue, if there is one, has released its fades and recalls (R15, R54). -/
def slotsWithout (s : State) (cue : CueNumber) : Sparse FadeSlot :=
  s.mix.slots.map fun f =>
    (f.1, { f.2 with
      owner := match f.2.owner with
        | .none => .none
        | .cue o => if ownerWithout s cue (some o) = none then .none else .cue o
        | .recall number o => .recall number (ownerWithout s cue o) })

/-- Nothing of a cue falls due in the step in which it fires: it has a prewait, or all its actions lie later and no postwait of
0 starts (R60, R63). -/
def Cue.Waits (c : Cue) : Prop :=
  0 < c.prewait
    ∨ (c.actions ≠ [] ∧ (∀ a ∈ c.actions, 0 < a.offset) ∧ (c.follow = .continue_ → 0 < c.postwait))

/-- The entry of a cue that waits, at the end of the step in which it fires: in PREWAIT, or for a prewait of 0 ACTIVE with its
CONTINUE postwait running (R55, R59, R60, R63). -/
def Entry.started (cue : Cue) (origin : Origin) (target : Option CueNumber) : Entry where
  cue := cue
  origin := origin
  phase := if cue.prewait = 0 then .active else .prewait
  prewait := cue.prewait
  elapsed := 0
  states := List.replicate cue.actions.length .unfired
  postwait :=
    if cue.follow = .none then .absent
    else if cue.prewait = 0 ∧ cue.follow = .continue_ then .running cue.postwait
    else .waiting
  followTarget := target
  outcome := if cue.follow = .none then .none else .pending

/-- The lowest-numbered free slot of a running-cue table is `k` (R55). -/
def LowestFree (table : Sparse Entry) (k : Nat) : Prop :=
  1 ≤ k ∧ k ≤ 16 ∧ sparseFind table k = none ∧ ∀ j, 1 ≤ j → j < k → sparseFind table j ≠ none

/-! ### The TALK line's release -/

/-- From `s` to `u` the TALK line has lost its hold on the TALK page: a page held by the link too stays, the active page ends
with release when no holder is left, and a waiting page leaves the queue then (R142). Where pages wait behind the active page
that ends, nothing is said. -/
def TalkLineGone (s u : State) : Prop :=
  (s.rpu.active = none → u.rpu = s.rpu ∧ u.evr = s.evr)
    ∧ ∀ a, s.rpu.active = some a →
      (a.page.cls = .talk → a.page.heldByLine = false → u.rpu = s.rpu ∧ u.evr = s.evr)
      ∧ (a.page.cls = .talk → a.page.heldByLine = true → a.page.heldByLink = true →
        u.rpu = { s.rpu with active := some { a with page := { a.page with heldByLine := false } } } ∧ u.evr = s.evr)
      ∧ (a.page.cls = .talk → a.page.heldByLine = true → a.page.heldByLink = false → s.rpu.queue = [] →
        sparseRising none s.rpu.zones = true → a.zoneSet.Nodup →
        u.rpu.active = none ∧ u.rpu.queue = [] ∧ u.evr = s.evr
          ∧ (∀ z, z ∉ a.zoneSet → zoneOf u z = zoneOf s z)
          ∧ ∀ z ∈ a.zoneSet, zoneOf u z = { zoneOf s z with
              inPage := false, paged := false
              duck := if (zoneOf s z).enabled then (zoneOf s z).duck.start 0 s.rpu.settings.release else ⟨0, none⟩ })
      ∧ (a.page.cls ≠ .talk → u.rpu = { s.rpu with
          queue := (s.rpu.queue.filter fun q => !(q.cls == .talk && q.heldByLine && !q.heldByLink)).map fun q =>
            if q.cls = .talk then { q with heldByLine := false } else q } ∧ u.evr = s.evr)

/-! ### The laws of the device -/

/-- The receive queue holds up to 4 items, the reply queue up to 2 replies, and a request in hand still has room for its
reply (R178, R179). -/
def LinkLaw (s : State) : Prop :=
  s.clink.queue.length ≤ 4 ∧ s.clink.replies.length ≤ 2 ∧ (s.clink.inHand ≠ none → s.clink.replies.length < 2)

/-- The event table lists each slot once, its count in 1-255, its detail of eight bytes (R183). -/
def EventLaw (s : State) : Prop :=
  sparseRising none s.evr.slots = true
    ∧ ∀ e ∈ s.evr.slots, 1 ≤ e.2.count ∧ e.2.count ≤ 255 ∧ e.2.detail.length = 8

/-- The flash is in canonical form (R93). -/
def FlashLaw (s : State) : Prop := Memory.wf s.cmc.flash = true

/-- The main duck, and the envelope that moves it, lie between the stop duck depth and 0 (R156). -/
def DuckLaw (s : State) : Prop :=
  off ≤ s.hsu.settings.depth ∧ s.hsu.settings.depth ≤ s.hsu.duck.value ∧ s.hsu.duck.value ≤ 0
    ∧ ∀ r, s.hsu.duck.run = some r →
        s.hsu.settings.depth ≤ r.start ∧ r.start ≤ 0 ∧ s.hsu.settings.depth ≤ r.target ∧ r.target ≤ 0

/-- Every governor's trim lies in its trim limits, which hold 0 between them (R112, R119). -/
def TrimLaw (s : State) : Prop :=
  ∀ e ∈ s.fbg.governors,
    e.2.settings.trimMin ≤ e.2.trim ∧ e.2.trim ≤ e.2.settings.trimMax
      ∧ e.2.settings.trimMin ≤ 0 ∧ 0 ≤ e.2.settings.trimMax ∧ 0 ≤ e.2.settings.stepMax

/-- The running-cue table has slots 1 to 16 and never two entries for one cue (R59). -/
def TableLaw (s : State) : Prop :=
  sparseRising (some 0) s.seq.entries = true ∧ (∀ e ∈ s.seq.entries, e.1 ≤ 16)
    ∧ (s.seq.entries.map fun e => e.2.cue.number).Nodup

/-- An operation that programs or erases flash (R101, R102, R106). -/
def operationWrites : Operation → Bool
  | .writePage _ _ _ => true
  | .eraseSector _ => true
  | .saveShow _ _ => true
  | .verifyClip _ _ _ _ => false
  | .load _ _ => false
  | .preflight _ _ => false

/-- A program or an erase in flight belongs to an operation in the slot that writes; and while the show state is SHOW, no
operation that writes and no show load is in the slot (R46, R100). -/
def ShowLaw (s : State) : Prop :=
  (∀ t, s.cmc.transfer = some t → t.extent.writes = true → ∃ o, s.cmc.slot = some o ∧ operationWrites o = true)
    ∧ (s.seq.showState = .inShow → loading s = false ∧ ∀ o, s.cmc.slot = some o → operationWrites o = false)

/-- Every zone's duck, and the envelope that moves it, lie between the zone's duck depth and 0 (R129). -/
def ZoneDuckLaw (s : State) : Prop :=
  ∀ e ∈ s.rpu.zones,
    off ≤ e.2.depth ∧ e.2.depth ≤ e.2.duck.value ∧ e.2.duck.value ≤ 0
      ∧ ∀ r, e.2.duck.run = some r → e.2.depth ≤ r.start ∧ r.start ≤ 0 ∧ e.2.depth ≤ r.target ∧ r.target ≤ 0

/-- The fade-slot table has slots 1 to 128, each with a duration of 1 to 600000 ms that its elapsed time does not pass, and
never two slots on one crosspoint (R4, R5). -/
def FadeLaw (s : State) : Prop :=
  sparseRising (some 0) s.mix.slots = true
    ∧ (∀ f ∈ s.mix.slots, f.1 ≤ 128 ∧ 1 ≤ f.2.duration ∧ f.2.duration ≤ longest ∧ f.2.elapsed ≤ f.2.duration)
    ∧ (s.mix.slots.map fun f => (f.2.source, f.2.bus)).Nodup

/-- No governor hunts or has converged, and none is gated from one of the two, while its freeze condition holds; a GATED
governor has a state it is gated from (R113, R120). -/
def FreezeLaw (s : State) : Prop :=
  sparseRising none s.fbg.governors = true
    ∧ ∀ n, 1 ≤ n → n ≤ 12 →
        ((governorOf s n).state = .gated → (governorOf s n).gatedFrom = some .hunting
          ∨ (governorOf s n).gatedFrom = some .converged ∨ (governorOf s n).gatedFrom = some .stalled)
        ∧ (freezeCondition s n = true → (governorOf s n).freezable = false)

/-- A level lies in the range of levels (R1). -/
def LevelInRange (x : Level) : Prop := off ≤ x ∧ x ≤ topLevel

/-- Every crosspoint level, bus master, fade start and fade target lies in the range of levels (R1). -/
def LevelLaw (s : State) : Prop :=
  (∀ e ∈ s.mix.levels, LevelInRange e.2) ∧ (∀ e ∈ s.mix.masters, LevelInRange e.2)
    ∧ ∀ f ∈ s.mix.slots, LevelInRange f.2.start ∧ LevelInRange f.2.target

/-- A cue as the cue store holds it: in range, its levels and times clamped (R28, R29). -/
def CueSound (c : Cue) : Prop := cueInRange c.body = true ∧ clampCue c.body = c.body

/-- Every cue that is stored or runs is sound, and so is every snapshot (R28, R29, R34). -/
def StoredLaw (s : State) : Prop :=
  (∀ c ∈ s.cst.cues, CueSound c) ∧ (∀ e ∈ s.seq.entries, CueSound e.2.cue)
    ∧ ∀ e ∈ s.cst.snapshots, snapshotInRange e.1 e.2 = true ∧ clampEntries e.2 = e.2

/-- Every fading crosspoint's level lies between the slot's floor-substituted start and target, and is the target once the
elapsed time is the duration (R4). During the start-up load nothing fades or runs, and standby is NONE (R109, R110). -/
def FadingLaw (s : State) : Prop :=
  sparseRising none s.mix.levels = true
    ∧ (∀ f ∈ s.mix.slots, 1 ≤ f.2.source ∧ 1 ≤ f.2.bus ∧ f.2.bus ≤ 25
        ∧ (f.2.elapsed < f.2.duration →
            min (floored f.2.start) (floored f.2.target) ≤ levelOf s f.2.source f.2.bus
              ∧ levelOf s f.2.source f.2.bus ≤ max (floored f.2.start) (floored f.2.target))
        ∧ (f.2.elapsed = f.2.duration → levelOf s f.2.source f.2.bus = f.2.target))
    ∧ ∀ phase, s.cmc.slot = some (.load true phase) → s.mix.slots = [] ∧ s.seq.entries = [] ∧ s.seq.standby = none

/-- The cue list stands in number order, standby is NONE or the index of a cue in it, not a cut one while skip-cut is set, and
NONE while a show load is in progress (R26, R47). -/
def StandbyLaw (s : State) : Prop :=
  cuesRising s.cst.cues = true
    ∧ (∀ i, s.seq.standby = some i → ∃ c, cueAt s i = some c ∧ (s.seq.skipCut = true → c.cut = false))
    ∧ (loading s = true → s.seq.standby = none)

/-- Each player's buffer and the call voice's hold at most four blocks, with room for the block that is being read for it (R72,
R98, R144). -/
def BufferLaw (s : State) : Prop :=
  sparseRising none s.ply.players = true
    ∧ (∀ n, (playerOf s n).buffer.length ≤ 4) ∧ s.rpu.voice.buffer.length ≤ 4
    ∧ ∀ x, s.cmc.transfer = some x → x.wanted = true →
        (∀ n, x.client = .player n → (playerOf s n).buffer.length < 4)
          ∧ (x.client = .voice → s.rpu.voice.buffer.length < 4)

/-- One waiting page may stand before another: a higher class first, and within a class replayed pages first; no two are equal in
class, source and target (R136). -/
def Page.before (p q : Page) : Prop :=
  (p.cls.number < q.cls.number ∨ (p.cls = q.cls ∧ (q.replayed = true → p.replayed = true))) ∧ p.same q = false

/-- The page queue holds at most 8 pages in their order, pages wait only behind an active page of their class or a higher one,
and at most one TALK page waits or is active (R136). -/
def PageLaw (s : State) : Prop :=
  sparseRising none s.rpu.zones = true ∧ s.rpu.queue.length ≤ 8 ∧ s.rpu.queue.Pairwise Page.before
    ∧ (s.rpu.active = none → s.rpu.queue = [])
    ∧ (∀ a, s.rpu.active = some a → ∀ q ∈ s.rpu.queue, a.page.cls.number ≤ q.cls.number)
    ∧ (s.rpu.queue.countP fun q => q.cls == .talk)
        + (s.rpu.active.toList.countP fun a => a.page.cls == .talk) ≤ 1

/-- Hold is effective whenever show stop is active (R153). -/
def HoldLaw (s : State) : Prop := s.hsu.stopActive = true → s.hsu.holdEffective = true

/-! ### A show that a file can hold -/

/-- A show within the limits of the part, every value in its range, as the requests that write it leave it: what R107 asks of a
file's contents. -/
def ShowSound (capacity : Nat) (d : ShowData) : Prop :=
  capacity ≤ 1048576 ∧ d.lockout ≤ 2000 ∧ d.holdTime ≤ 60000
    ∧ tablesSound d.cues d.snapshots d.directory = true
    ∧ (∀ c ∈ d.cues, CueSound c)
    ∧ (∀ e ∈ d.snapshots, snapshotInRange e.1 e.2 = true ∧ clampEntries e.2 = e.2)
    ∧ (∀ e ∈ d.directory, directoryInRange capacity e.1 (directoryBody (some e.2)) = true)
    ∧ d.zones.length = 24 ∧ (∀ b ∈ d.zones, zoneSound 1 b = true)
    ∧ d.governors.length = 12 ∧ (∀ b ∈ d.governors, governorSound 1 b = true)
    ∧ d.masters.length = 25 ∧ (∀ x ∈ d.masters, clampLevel x = x)
    ∧ d.lines.length = 4 ∧ (∀ p ∈ d.lines.zipIdx 1, lineSound p.2 p.1 = true)
    ∧ pagingSound d.paging = true ∧ stopSound d.stop = true

end Sys2Proof.Machine
end

