-- ==== Sys2Proof/Certificates/Slice0/Obligations.lean ====
section
/-!
DEFINITION. The statements for the provers. In each, `Decided i s code tag status contents u` says that the command `i`
completes at `s` and that its next state is `u` with that reply, settled; `heard s` is `s` with the frame hunter in
HUNTING, since a request arrives as a frame.
-/

open Sys2Proof Sys2Proof.Machine

/-! ### The block as a machine -/

/-- A step takes the command at the front of the queue and is that command's meaning on the state with the queue's rest; on
an empty queue the block idles (log entry 11). -/
def Obligations.StepTakesTheFrontCommand : Prop :=
  ∀ (c : Instr) (s : State),
    step (s.withQueue (c :: s.pending)) = exec c s ∧ (s.pending = [] → step s = .next s)

/-- No command stops the part, and none changes the queue of commands: the spec names no stopping condition. -/
def Obligations.EveryCommandCompletesAndLeavesTheQueue : Prop :=
  ∀ (i : Instr) (s : State), ∃ t, exec i s = .next t ∧ t.pending = s.pending

/-- What the machine is right after reset, which satisfies every law of the device: by the reset tables of the chapters (R25,
R45, R71, R92, R128, R150, R161, R175, R186); the values that only a log entry gives are left out. -/
def Obligations.ResetLeavesTheValuesOfTheTables : Prop :=
  let s := State.reset
  (s.clink.hunter.phase = .hunting ∧ s.clink.gap = 0 ∧ s.clink.queue = [] ∧ s.clink.inHand = none
      ∧ s.clink.replies = [] ∧ s.clink.errors = 0 ∧ s.evr.slots = [] ∧ s.evr.mask = 0 ∧ s.attn = false)
    ∧ (s.cst.cues = [] ∧ actionPoolFree s = 4096 ∧ s.cst.snapshots = [] ∧ entryPoolFree s = 4096
      ∧ s.cst.lastRecalled = none ∧ recallBusy s = false ∧ s.cst.recalledSinceRead = false
      ∧ s.cst.report.status = .none ∧ s.cst.report.walked = 0 ∧ s.cst.report.total = 0 ∧ s.cst.clean = false)
    ∧ (s.seq.showState = .setup ∧ s.seq.standby = none ∧ s.seq.entries = [] ∧ s.seq.lockout = 0
      ∧ s.seq.skipCut = true ∧ s.seq.lockoutSetting = 250)
    ∧ (s.mix.slots = [] ∧ s.mix.nextRecall = 1
      ∧ ∀ source bus, levelOf s source bus = off ∧ masterOf s bus = 0 ∧ meterOf s bus = ⟨0, 0⟩
          ∧ sparseRead {} s.mix.codes (crosspoint source bus) = ⟨0, 0⟩)
    ∧ (∀ n, (playerOf s n).state = .idle ∧ (playerOf s n).clip = none ∧ (playerOf s n).buffer = []
      ∧ (playerOf s n).underruns = 0 ∧ (playerOf s n).lateStart = 0) ∧ s.ply.holdTime = 5000
    ∧ (s.cmc.slot = some (.load true .header) ∧ loading s = true ∧ s.cmc.transfer = none ∧ s.cmc.linkWait = 0
      ∧ s.cmc.directory = [])
    ∧ (∀ n, (governorOf s n).state = .off ∧ (governorOf s n).trim = 0 ∧ (governorOf s n).inBand = 0
      ∧ (governorOf s n).settle = 0 ∧ (governorOf s n).lastSettle = 0 ∧ (governorOf s n).rehunt = false
      ∧ (governorOf s n).ceilingCount = 0 ∧ (governorOf s n).lastM = -1536
      ∧ (governorOf s n).settings = ⟨false, -320, 16, 32, -384, 96, -48⟩)
    ∧ (∀ n, (zoneOf s n).enabled = true ∧ (zoneOf s n).group = (n + 2) / 3 ∧ (zoneOf s n).relay = 0
      ∧ (zoneOf s n).page = 0 ∧ (zoneOf s n).depth = -320 ∧ (zoneOf s n).duck = ⟨0, none⟩
      ∧ (zoneOf s n).inPage = false ∧ (zoneOf s n).paged = false ∧ (zoneOf s n).clips = 0)
    ∧ (s.rpu.queue = [] ∧ s.rpu.active = none ∧ s.rpu.voice.state = .idle ∧ s.rpu.nextNumber = 1
      ∧ s.rpu.settings = ⟨32, 0, 255, 50, 500⟩)
    ∧ (s.hsu.holdLine = false ∧ s.hsu.stopLine = false ∧ s.hsu.holdRequest = false ∧ s.hsu.stopRequest = false
      ∧ s.hsu.holdEffective = false ∧ s.hsu.stopActive = false ∧ s.hsu.duck = ⟨0, none⟩
      ∧ s.hsu.settings = ⟨-1536, 300, 1000, 3, 0, -96⟩ ∧ ∀ b, injectionOf s b = ⟨0, none⟩)
    ∧ (s.tmu.clock = 0 ∧ s.tmu.absence = 0 ∧ s.tmu.presence = 0 ∧ s.tmu.marks = [] ∧ s.tmu.goRecord = []
      ∧ s.tmu.interval = 0 ∧ s.tmu.lamp = .off
      ∧ ∀ n, (timerOf s n).state = .disarmed ∧ (timerOf s n).payload = .eventOnly ∧ (timerOf s n).target = 0
          ∧ (timerOf s n).late = false ∧ (lineOf s n).activeHigh = false ∧ (lineOf s n).debounce = 10
          ∧ (lineOf s n).toggle = false ∧ (lineOf s n).count = 0)
    ∧ LinkLaw s ∧ EventLaw s ∧ FlashLaw s ∧ DuckLaw s ∧ ZoneDuckLaw s ∧ TrimLaw s ∧ FreezeLaw s ∧ TableLaw s ∧ ShowLaw s
    ∧ FadeLaw s ∧ LevelLaw s ∧ StoredLaw s ∧ FadingLaw s ∧ PageLaw s ∧ BufferLaw s ∧ StandbyLaw s ∧ HoldLaw s

/-- RESET DEVICE is answered OK and from then on no item is taken. POWER_ON puts every block at its power-on values with the
rate of the straps and the capacity the flash answers with, the start-up show load begins with its first block read granted,
the flash is unchanged when nothing was writing it, and a show save that is cut leaves a show region that no load finds sound;
DEVICE_RESET does the same once RESET DEVICE has been taken and the last reply has left, and before that nothing (R176, R182,
R186, R110, R98).
That the first block read is granted in the step of the reset is the model's reading (log entry 4), and so are the moment at
which DEVICE_RESET is due (log entry 27) and what a cut save leaves (log entry 36). Of the whole records, the values that no
table gives are the model's choice: last recall number 0, output frames empty, sample index 0, no frame sent, no clip on the
call voice (log entry 2), and the word clock FREE and not judged (log entry 5). -/
def Obligations.ResetsPutEveryBlockAtItsPowerOnValues : Prop :=
  ∀ (i : ResetInputs) (s : State), ∃ t,
    exec (.powerOn i) s = .next t
      ∧ exec (.deviceReset i) s
          = .next (if s.clink.resetTaken = true ∧ s.clink.replies = [] then t else s)
      ∧ t.clink = { ({} : Clink) with
          rate := if i.rateB then (if i.rateA then 3 else 2) else (if i.rateA then 1 else 0) }
      ∧ t.evr = {} ∧ t.cst = {} ∧ t.seq = {} ∧ t.mix = {} ∧ t.ply = {} ∧ t.fbg = {} ∧ t.rpu = {} ∧ t.hsu = {}
      ∧ t.tmu = {}
      ∧ t.cmc.slot = some (.load true .header) ∧ t.cmc.transfer = some ⟨.link, .blockRead 0, 0, 0, true⟩
      ∧ t.cmc.directory = [] ∧ t.cmc.linkWait = 0
      ∧ (∀ k, k ≤ 9 → i.flashPages = some (2048 * 2 ^ k) → t.cmc.capacity = 2048 * 2 ^ k)
      ∧ (i.flashPages = none → t.cmc.capacity = 0)
      ∧ ((∀ x, s.cmc.transfer = some x → x.extent.writes = false) → saveCut s = false → t.cmc.flash = s.cmc.flash)
      ∧ (FlashLaw s → saveCut s = true → regionSound t.cmc.flash = false)
      ∧ ∀ tag, LinkOpen s → ∃ u, Decided (.resetDevice tag) s 0x05 tag .ok [] u ∧ mayTake u.clink = false
          ∧ u = (heard s).withClink { (heard s).clink with resetTaken := true }

/-! ### The control link -/

/-- Reading a request's body back gives the request, with every field at every value a frame can carry (R179, R187). -/
def Obligations.EveryRequestReadsBackFromItsBody : Prop :=
  ∀ r : Request, requestFits r = true →
    (requestBody r).length ≤ 1040 ∧ parseRequest (requestCode r) (requestBody r) = .request r

/-- A well-formed request row does exactly what its sound frame does when it is received and all that may be taken is taken
(R177, R179, R187).
What a request row stands for is the model's choice (log entry 26). -/
def Obligations.RequestRowIsItsFrame : Prop :=
  ∀ (i : Instr) (tag : Nat) (r : Request) (s : State), requestOf i = some (tag, r) → i.wf = true →
    exec (.frameReceived (requestFrameOf tag r) .whole) s = exec i s

/-- From HUNTING, with nothing in the receive queue that may be taken, the bytes of a frame received one after the other come
to what the whole frame comes to, whatever its kind, code, tag, body and CRC (R177). States in which an item waits that may be
taken are left out: there the first byte and the whole frame take it at different steps.
That the hunter is back in HUNTING in the step of the last byte is the model's choice (log entry 26). -/
def Obligations.BytesMakeTheFrame : Prop :=
  ∀ (f : Frame) (s : State), f.body.length ≤ 1040 → s.clink.hunter.phase = .hunting →
    (s.clink.queue = [] ∨ mayTake s.clink = false) →
    execAll ((frameOnLink f).map .linkByteReceived) s = exec (.frameReceived f .whole) s

/-- In HUNTING a byte other than C5h is discarded and C5h starts a frame. A partial frame is abandoned when its gap count has
reached 11, when a character error breaks it, and when its second length byte shows a length above 1040: counted and raised
with its cause, the hunter back in HUNTING; only the last is offered as an item, and lost as an overrun when 4 items wait.
Elsewhere the three rows change nothing (R177, R178).
That an event row with nothing due changes nothing is the model's choice (log entry 8), and so is that the hunter is back in
HUNTING in the very step of the bad second length byte (log entry 26). -/
def Obligations.HunterWaitsAndAbandonsPartialFrames : Prop :=
  ∀ (b : Byte) (s : State),
    let broken (cause : Byte) (t : State) : Prop :=
      t.clink.hunter = {} ∧ t.clink.gap = 0 ∧ t.clink.errors = min 65535 (s.clink.errors + 1)
        ∧ t.evr = (raiseEvent .link 1 [cause] s).evr ∧ t.clink.replies = s.clink.replies
        ∧ t.clink.inHand = s.clink.inHand ∧ t = (s.withClink t.clink).withEvr t.evr
    (s.clink.hunter.phase = .hunting → (s.clink.queue = [] ∨ mayTake s.clink = false) →
      ∃ t, exec (.linkByteReceived b) s = .next t ∧ t.clink.hunter.phase = (if b = 0xC5#8 then .length else .hunting)
        ∧ t.clink.gap = 0 ∧ t.clink.hunter.bytes = []
        ∧ t = s.withClink { s.clink with hunter := t.clink.hunter, gap := t.clink.gap })
    ∧ (∃ t, exec .frameGapTimeout s = .next t
      ∧ if s.clink.hunter.phase ≠ .hunting ∧ 11 ≤ s.clink.gap then broken 3 t ∧ t.clink.queue = s.clink.queue
        else t = s)
    ∧ (∃ t, exec .characterError s = .next t
      ∧ if s.clink.hunter.phase ≠ .hunting then broken 4 t ∧ t.clink.queue = s.clink.queue else t = s)
    ∧ (∃ t, exec (.frameLengthError b .split) s = .next t
      ∧ if s.clink.hunter.phase = .length ∧ s.clink.hunter.bytes.length = 1
            ∧ 1040 < (s.clink.hunter.bytes.headD 0).toNat + 256 * b.toNat then
          (s.clink.queue.length < 4 → broken 0 t ∧ t.clink.queue = s.clink.queue ++ [.frameError])
            ∧ (4 ≤ s.clink.queue.length →
              t.clink = { s.clink with
                hunter := {}, gap := 0, errors := min 65535 (min 65535 (s.clink.errors + 1) + 1) }
                ∧ t.evr = (raiseEvent .link 2 [0, 0] (raiseEvent .link 1 [0] s)).evr
                ∧ t = (s.withClink t.clink).withEvr t.evr)
        else t = s)

/-- A whole frame is judged by length, CRC and kind: a frame error is counted, raised as LINK source 1 and offered as a
frame-error item; a request joins the queue, marked when its tag waits; what finds 4 items waiting is discarded, counted
and raised as LINK source 2. The hunter is back in HUNTING and nothing else changes (R177, R178).
That the overrun of a frame-error item gives code 0 and tag 0 is the model's reading (log entry 25), and that the hunter is
home in the step of the frame is its choice (log entry 26). -/
def Obligations.FrameIsJudgedAndOffered : Prop :=
  ∀ (f : Frame) (s : State), ∃ t, exec (.frameReceived f .split) s = .next t
    ∧ t.clink.hunter = {} ∧ t.clink.gap = 0
    ∧ t = (s.withClink t.clink).withEvr { s.evr with slots := t.evr.slots }
    ∧ t.clink.replies = s.clink.replies ∧ t.clink.inHand = s.clink.inHand ∧ t.clink.rate = s.clink.rate
    ∧ t.clink.resetTaken = s.clink.resetTaken ∧ t.clink.sent = s.clink.sent
    ∧ (if 1040 < f.body.length ∨ crcOf (frameCovered f) ≠ f.crc ∨ f.kind ≠ 1 then
        let cause : Byte := if 1040 < f.body.length then 0 else if crcOf (frameCovered f) ≠ f.crc then 1 else 2
        if s.clink.queue.length < 4 then
          t.clink.queue = s.clink.queue ++ [.frameError] ∧ t.clink.errors = min 65535 (s.clink.errors + 1)
            ∧ t.evr = (raiseEvent .link 1 [cause] s).evr
        else
          t.clink.queue = s.clink.queue ∧ t.clink.errors = min 65535 (min 65535 (s.clink.errors + 1) + 1)
            ∧ t.evr = (raiseEvent .link 2 [0, 0] (raiseEvent .link 1 [cause] s)).evr
      else
        if s.clink.queue.length < 4 then
          (∃ mark, t.clink.queue
              = s.clink.queue ++ [.request f.tag.toNat mark (parseRequest f.code.toNat f.body)]
            ∧ (mark = true ↔ (∃ d p, .request f.tag.toNat d p ∈ s.clink.queue)
                ∨ ∃ page, s.clink.inHand = some ⟨f.tag.toNat, page⟩))
            ∧ t.clink.errors = s.clink.errors ∧ t.evr = s.evr
        else
          t.clink.queue = s.clink.queue ∧ t.clink.errors = min 65535 (s.clink.errors + 1)
            ∧ t.evr = (raiseEvent .link 2 [f.code, f.tag] s).evr)

/-- A frame-error item and an unknown request at the head of the queue are answered when an item may be taken: FRAME_ERROR
with code 0 and tag 0, UNKNOWN_REQUEST with the code and tag that came; and the reply at the head of the reply queue leaves.
During a show load every request other than IDENTIFY, STATUS and TAKE EVENT is answered BUSY and changes nothing but the
link; those three are answered OK (R179, R180). -/
def Obligations.ItemsAreAnsweredAndALoadLeavesThreeRequests : Prop :=
  (∀ (s : State) (rest : List Item) (tag code : Nat), mayTake s.clink = true →
    (s.clink.queue = .frameError :: rest →
      Decided .frameErrorItem s 0 0 .frameError [] (s.withClink { s.clink with queue := rest }))
    ∧ (s.clink.queue = .request tag false (.unknown code) :: rest →
      Decided .unknownRequest s code tag .unknownRequest [] (s.withClink { s.clink with queue := rest }))
    ∧ ∀ (u : State) (r : Reply) (more : List Reply), u.clink.replies = r :: more →
      exec (.replyTransmitted .split) u
        = .next (u.withClink { u.clink with replies := more, sent := some r }))
  ∧ (∀ (i : Instr) (tag : Nat) (r : Request) (s : State), requestOf i = some (tag, r) → LinkReady s → loading s = true →
    if r = .identify ∨ r = .status ∨ r = .takeEvent then
      ∃ contents u, Decided i s (requestCode r) tag .ok contents u
        ∧ u = ((heard s).withCst { s.cst with recalledSinceRead := u.cst.recalledSinceRead }).withEvr
            { s.evr with slots := u.evr.slots }
    else Decided i s (requestCode r) tag .busy [] (heard s))

/-! ### Time, samples and lines -/

/-- A millisecond boundary counts the show clock up by 1 modulo 2^32 and publishes hold and show stop as the four flags stand,
the HOLD and STOP lines' due assertions and releases taken first when the order says so and the step takes them. With due
events left to their rows and SEQ quiet, it decides the standby lamp: OFF without standby or under hold, FLASHING while a
player reserved for standby loads, else STEADY; a flashing lamp is lit for the first 250 of every 500 ms (R153, R162, R167,
R173).
The order inside the boundary is an operand (log entry 7). -/
def Obligations.BoundaryCountsAndPublishes : Prop :=
  (∀ (i : BoundaryInputs) (o : BoundaryOrder) (taking : Taking) (s : State),
    ∃ t, exec (.millisecondBoundary i o taking) s = .next t ∧ t.tmu.clock = s.tmu.clock + 1 ∧ t.mix.sample = 0
      ∧ ((o.linesFirst = false ∨ taking = .split) →
        t.hsu.stopActive = (s.hsu.stopLine || s.hsu.stopRequest)
          ∧ t.hsu.holdEffective = (s.hsu.holdLine || s.hsu.holdRequest || s.hsu.stopLine || s.hsu.stopRequest))
      ∧ (o.linesFirst = true → taking = .whole → sparseRising none s.tmu.lines = true →
        let formed (n : Nat) (high was : Bool) : Bool :=
          let l := (lineOf s n).sample high
          if l.debounce ≤ l.count ∧ l.state = .released then (if l.toggle then !was else true)
          else if l.debounce ≤ l.count ∧ l.state = .asserted ∧ l.toggle = false then false
          else was
        let hold := formed 2 i.holdHigh s.hsu.holdLine
        let stop := formed 3 i.stopHigh s.hsu.stopLine
        t.hsu.stopActive = (stop || s.hsu.stopRequest)
          ∧ t.hsu.holdEffective = (hold || s.hsu.holdRequest || stop || s.hsu.stopRequest))
      ∧ (taking = .split → QuietSeq s → sparseRising none s.ply.players = true →
        t.tmu.lamp = (match standbyNumber s with
          | none => .off
          | some cue =>
            if (if o.lampOld then s.hsu.holdEffective else t.hsu.holdEffective) = true then .off
            else if ∃ n ∈ List.range' 1 8,
                (playerOf s n).reservation = some ⟨cue, false⟩ ∧ (playerOf s n).state = .loading then
              (match s.tmu.lamp with
                | .flashing c => .flashing (c + 1)
                | .off | .steady => .flashing 0)
            else .steady)))
  ∧ (Lamp.lit .off = false ∧ Lamp.lit .steady = true ∧ ∀ k, Lamp.lit (.flashing k) = decide (k % 500 < 250))

/-- The boundary, its due events left to their rows and SEQ quiet, at which show stop becomes active: the main duck starts
its attack toward the stop duck depth, the injection of every announce bus and foldback bus starts a ramp in toward its code,
the STOP page stands on every enabled zone if there is one, and SHOW_STOP tells ON and the four flags. At the boundary at
which it ceases to be active the duck releases, what is in or ramping in ramps out, the STOP page ends with release, and
SHOW_STOP tells OFF. At any other the injections stand and the duck's envelope only advances (R143, R153 to R157).
That an injection that ramps in toward code 0 ramps out too is the model's reading (log entry 37). -/
def Obligations.ShowStopActsAtItsBoundary : Prop :=
  ∀ (i : BoundaryInputs) (o : BoundaryOrder) (s : State), QuietSeq s → sparseRising none s.rpu.zones = true →
    let now := s.hsu.stopLine || s.hsu.stopRequest
    let g := s.hsu.settings
    let duck := s.hsu.duck.advance
    let bit (b : Bool) (k : Nat) : Nat := if b then k else 0
    let flags := bit s.hsu.stopLine 1 + bit s.hsu.stopRequest 2 + bit s.hsu.holdLine 4 + bit s.hsu.holdRequest 8
    ∃ t, exec (.millisecondBoundary i o .split) s = .next t
      ∧ t.hsu.stopActive = now ∧ t.hsu.settings = g
      ∧ t.hsu.holdEffective = (now || s.hsu.holdLine || s.hsu.holdRequest)
      ∧ (s.hsu.stopActive = now → t.hsu.duck = duck ∧ t.hsu.injections = s.hsu.injections)
      ∧ (s.hsu.stopActive = false → now = true →
        t.hsu.duck = duck.start g.depth g.attack
          ∧ Recorded .showStop 0 (bytesOf 1 1 ++ bytesOf 1 flags) s t
          ∧ (∀ b, 1 ≤ b → b ≤ 20 →
              injectionOf t b = (if b ≤ 8 ∧ g.announceBuses.testBit (b - 1) = false then injectionOf s b
                else ⟨(injectionOf s b).code, some ⟨(injectionOf s b).code,
                  levelCode (if b ≤ 8 then g.announceLevel else g.foldbackLevel), 0, true⟩⟩))
          ∧ (zonesSelected s 255 [] ≠ [] → (∀ a, s.rpu.active = some a → a.page.cls ≠ .stop) →
              (∀ q ∈ s.rpu.queue, q.cls ≠ .stop) →
              ∃ a, t.rpu.active = some a ∧ a.page.cls = .stop ∧ a.page.source = .live ∧ a.page.origin = .stop
                ∧ a.page.mask = 255 ∧ a.page.zones = [] ∧ a.zoneSet = zonesSelected s 255 [] ∧ a.attack = none
                ∧ ∀ z ∈ a.zoneSet, (zoneOf t z).inPage = true ∧ (zoneOf t z).paged = true)
          ∧ (zonesSelected s 255 [] = [] → s.rpu.active = none → t.rpu.active = none ∧ t.rpu.queue = s.rpu.queue))
      ∧ (s.hsu.stopActive = true → now = false →
        t.hsu.duck = duck.start 0 g.release
          ∧ Recorded .showStop 0 (bytesOf 1 0 ++ bytesOf 1 flags) s t
          ∧ (∀ b, 1 ≤ b → b ≤ 20 →
              injectionOf t b = (if (match (injectionOf s b).ramp with
                  | none => (injectionOf s b).code != 0
                  | some r => r.entering) = true then
                ⟨(injectionOf s b).code, some ⟨(injectionOf s b).code, 0, 0, false⟩⟩ else injectionOf s b))
          ∧ (∀ a, s.rpu.active = some a → a.page.cls = .stop → s.rpu.queue = [] → a.zoneSet.Nodup →
              t.rpu.active = none ∧ t.rpu.queue = []
                ∧ ∀ z ∈ a.zoneSet, 1 ≤ z → z ≤ 24 → (zoneOf t z).inPage = false ∧ (zoneOf t z).paged = false
                    ∧ (zoneOf t z).duck = if (zoneOf s z).enabled then
                        (zoneOf s z).duck.advance.start 0 s.rpu.settings.release else ⟨0, none⟩))

/-- The show clock moves at a millisecond boundary, by 1, and hold and show stop as the other blocks read them change at
millisecond boundaries only; a reset of the part leaves 0 and clear. No other command changes them: no request, no RESET
SHOW, no show load, no hold (R162, R153). -/
def Obligations.OnlyBoundariesMoveClockAndPublishedHold : Prop :=
  ∀ (i : Instr) (s t : State), exec i s = .next t →
    (t.tmu.clock = s.tmu.clock ∧ t.hsu.holdEffective = s.hsu.holdEffective ∧ t.hsu.stopActive = s.hsu.stopActive)
      ∨ (∃ inp o k, i = .millisecondBoundary inp o k ∧ t.tmu.clock = s.tmu.clock + 1)
      ∨ (t.tmu.clock = 0 ∧ t.hsu.holdEffective = false ∧ t.hsu.stopActive = false
          ∧ ((∃ inp, i = .powerOn inp) ∨ ∃ inp, i = .deviceReset inp))

/-- A boundary, its due events left to their rows and SEQ quiet: the lockout counts down whether or not hold is effective; the
entries stand under hold, and outside it prewaits count down, elapsed times up and running postwaits down. The GO interval
counts, and each debouncer takes its sample. The zone ducks and the attack timer move on, and each zone's two codes, the talk
code and the players' codes are formed, the codes formed last being those the glides leave (R51, R60, R63, R65, R81, R114,
R130 to R132, R139, R144, R166, R172). Where show stop begins or ends at the boundary, ShowStopActsAtItsBoundary says what the
ducks and the page do.
That such a boundary leaves due events to their rows is the model's choice (log entry 8). -/
def Obligations.BoundaryCountsEntriesLinesAndCodes : Prop :=
  ∀ (i : BoundaryInputs) (o : BoundaryOrder) (s : State), QuietSeq s → sparseRising none s.tmu.lines = true →
    sparseRising none s.rpu.zones = true → sparseRising none s.ply.players = true →
    let code (x : Level) : Nat := if x = off then 0 else gainCode x
    ∃ t, exec (.millisecondBoundary i o .split) s = .next t ∧
      let held := if o.seqOld then s.hsu.holdEffective else t.hsu.holdEffective
      let steady : Prop := t.hsu.stopActive = s.hsu.stopActive
      t.seq = { s.seq with
        lockout := s.seq.lockout - 1
        entries := if held = true then s.seq.entries else s.seq.entries.map fun e =>
          (e.1, match e.2.phase with
            | .prewait => { e.2 with prewait := e.2.prewait - 1 }
            | .active | .done =>
              { e.2 with
                elapsed := min 600000 (e.2.elapsed + 1)
                postwait := match e.2.postwait with
                  | .running r => .running (r - 1)
                  | .absent => .absent
                  | .waiting => .waiting
                  | .ended => .ended }) }
      ∧ t.tmu.interval = min 4294967295 (s.tmu.interval + 1) ∧ t.tmu.goRecord = s.tmu.goRecord
      ∧ t.tmu.timers = s.tmu.timers ∧ t.tmu.marks = s.tmu.marks ∧ t.fbg.windowMs = s.fbg.windowMs + 1
      ∧ (∀ n high, (n, high) ∈ [(1, i.goHigh), (2, i.holdHigh), (3, i.stopHigh), (4, i.talkHigh)] →
          let l := lineOf s n
          let active := high == l.activeHigh
          lineOf t n = { l with
            state := if l.state = .undecided then (if active then .blocked else .released) else l.state
            count := if l.state ≠ .undecided ∧ active = decide (l.state = .released) then
                min l.debounce (l.count + 1) else 0 })
      ∧ (∀ z, 1 ≤ z → z ≤ 24 →
          let x := zoneOf s z
          let y := zoneOf t z
          y.gr = (if x.enabled then
              ⟨x.gr.g1, if x.relay = off ∨ x.relay + y.duck.value ≤ off then 0
                else gainCode (min 192 (x.relay + y.duck.value))⟩ else x.gr)
            ∧ y.gp = (if x.enabled then ⟨x.gp.g1, if y.paged then code x.page else 0⟩ else x.gp)
            ∧ (steady → y = { x with
                gr := y.gr, gp := y.gp
                duck := match x.duck.run with
                  | none => x.duck
                  | some r =>
                    if r.elapsed + 1 < r.time then
                      ⟨fadeLevel r.start r.target r.time (r.elapsed + 1), some { r with elapsed := r.elapsed + 1 }⟩
                    else ⟨r.target, none⟩ }))
      ∧ (steady → t.rpu.queue = s.rpu.queue
          ∧ t.rpu.active = s.rpu.active.map (fun a => { a with attack := a.attack.map fun ms => ms - 1 })
          ∧ t.rpu.voice = { s.rpu.voice with
              waited := if (s.rpu.active.any fun a => a.attack == none) = true ∧ s.rpu.voice.state = .loading then
                s.rpu.voice.waited + 1 else s.rpu.voice.waited }
          ∧ ∀ x, s.cmc.transfer = some x → t.cmc.transfer = some { x with elapsed := x.elapsed + 1 })
      ∧ t.rpu.talk = ⟨s.rpu.talk.g1, code s.rpu.settings.talkLevel⟩
      ∧ ∀ n, 1 ≤ n → n ≤ 8 → (playerOf t n).code = ⟨(playerOf s n).code.g1, code (playerOf t n).env.level⟩

/-- While hold is in force for the matrix no fade advances and no level changes; otherwise every fade slot advances by one
millisecond and its crosspoint stands at the fade law's level, the target exactly at its end. The boundary forms the effective
gain on every crosspoint, and the glide runs from the code formed last to it: zero whenever level or bus master is OFF,
whatever duck or trim applies, and when the sum of level and adjustment is at or below -1536; otherwise the gain of that sum,
at most +192. The adjustment is the master with the main duck on buses 1 to 8 and the governor's trim on 9 to 20. 0 dB is
4,194,304, +12 dB is 16,697,825 and -20 dB is 419,430. The boundary is one whose due events are taken by rows of their own,
SEQ being quiet (R12, R13, R16, R17, R18).
That such a boundary leaves due events to their rows is the model's choice (log entry 8), and which duck its order gives is an
operand (log entry 7). -/
def Obligations.BoundaryMovesTheMatrix : Prop :=
  (∀ (i : BoundaryInputs) (o : BoundaryOrder) (s : State), QuietSeq s → FadeLaw s →
    (∀ f ∈ s.mix.slots, 1 ≤ f.2.source ∧ 1 ≤ f.2.bus ∧ f.2.bus ≤ 25 ∧ f.2.elapsed < f.2.duration) →
    sparseRising none s.mix.levels = true →
    ∃ t, exec (.millisecondBoundary i o .split) s = .next t ∧
      if (if o.mixOld then s.hsu.holdEffective else s.hsu.holdFormed) then
        t.mix.slots = s.mix.slots ∧ t.mix.levels = s.mix.levels
      else
        t.mix.slots = s.mix.slots.map (fun f => (f.1, { f.2 with elapsed := f.2.elapsed + 1 }))
        ∧ (∀ f ∈ s.mix.slots,
            let start := if f.2.start = off then -960 else f.2.start
            let target := if f.2.target = off then -960 else f.2.target
            levelOf t f.2.source f.2.bus
              = if f.2.elapsed + 1 < f.2.duration then
                  start + ((target - start) * ((f.2.elapsed + 1 : Nat) : Int)).tdiv f.2.duration
                else f.2.target)
        ∧ ∀ source bus, 1 ≤ source → 1 ≤ bus → bus ≤ 25 →
            (∀ f ∈ s.mix.slots, f.2.source ≠ source ∨ f.2.bus ≠ bus) → levelOf t source bus = levelOf s source bus)
    ∧ (∀ (s : State) (source bus : Nat), 1 ≤ source → 1 ≤ bus → bus ≤ 25 →
      (levelOf s source bus = off ∨ masterOf s bus = off ∨ levelOf s source bus + busAdjustment s bus ≤ off →
        formedCode s (crosspoint source bus) = 0)
      ∧ (levelOf s source bus ≠ off → masterOf s bus ≠ off → off < levelOf s source bus + busAdjustment s bus →
        formedCode s (crosspoint source bus) = gainCode (min 192 (levelOf s source bus + busAdjustment s bus))))
    ∧ (∀ (s : State) (bus : Nat), busAdjustment s bus = masterOf s bus
        + (if bus ≤ 8 then s.hsu.duck.value else if bus ≤ 20 then (governorOf s (bus - 8)).trim else 0))
    ∧ gainCode 0 = 4194304 ∧ gainCode 192 = 16697825 ∧ gainCode (-96) = 2102132 ∧ gainCode (-107) = 1942160
    ∧ gainCode (-320) = 419430 ∧ gainCode (-1535) = 67
    ∧ (∀ g : Glide, g.at 47 = g.g1) ∧ (∀ (g : Nat) (n : Nat), (Glide.mk g g).at n = g)
    ∧ ∀ (i : BoundaryInputs) (o : BoundaryOrder) (s : State), QuietSeq s → sparseRising none s.mix.codes = true →
        ∃ t, exec (.millisecondBoundary i o .split) s = .next t ∧ t.mix.masters = s.mix.masters
          ∧ ∀ source bus, 1 ≤ source → source ≤ 48 → 1 ≤ bus → bus ≤ 25 →
            let x := levelOf t source bus
            let m := masterOf s bus
            let v := x + m
              + (if bus ≤ 8 then (if o.mixOld then s.hsu.duck.advance.value else t.hsu.duck.value)
                else if bus ≤ 20 then (governorOf s (bus - 8)).trim else 0)
            sparseRead ({} : Glide) t.mix.codes (crosspoint source bus)
              = ⟨(sparseRead ({} : Glide) s.mix.codes (crosspoint source bus)).g1,
                  if x = off ∨ m = off ∨ v ≤ off then 0 else gainCode (min 192 v)⟩

/-- A sample period, SEQ being quiet: each bus's output is the rounded sum of the 32 inputs and the 16 player channels
under their glided codes, and of the page bus under the bus's injection code, limited to 24 bits, metered with its clips
counted and raised, and on buses 9 to 20 its square added to the governor's window. Each zone's output is bus RLY under its relay code and the page bus under its page code, limited and its clips
counted, and 0 for a disabled zone. The injections step along their ramps. The output frame leaves one period later and
carries 24 buses and 24 zones; the next sample of the millisecond follows (R18 to R21, R23, R24, R81, R111, R114, R130,
R132, R157).
The index that stops at 47 is the model's choice (log entry 9). -/
def Obligations.SamplePeriodSumsEverySource : Prop :=
  ∀ (xs : List Int) (edge : Bool) (s : State), xs.length = 32 → QuietSeq s →
    sparseRising none s.mix.codes = true → sparseRising none s.mix.meters = true →
    sparseRising none s.ply.players = true → sparseRising none s.rpu.zones = true →
    sparseRising none s.hsu.injections = true → sparseRising none s.fbg.sums = true →
    ∃ t, exec (.samplePeriod ⟨xs, edge⟩ .split) s = .next t ∧
      let sources := xs ++ (List.range' 1 8).flatMap fun n => [(playerFrame s n).1, (playerFrame s n).2]
      let p := pageSample xs s
      let limited (y : Int) : Int := max (-8388608) (min 8388607 y)
      let sum (bus : Nat) : Int := roundHalfAway
        (((List.range 48).map fun k =>
            sources.getD k 0 * (sparseRead ({} : Glide) s.mix.codes (crosspoint (k + 1) bus)).at s.mix.sample).sum
          + p * ((if bus ≤ 20 then (injectionOf t bus).code else 0 : Nat) : Int)) (2 ^ 22)
      let zone (z : Nat) : Int := roundHalfAway
        (limited (sum 25) * (zoneOf s z).gr.at s.mix.sample + p * (zoneOf s z).gp.at s.mix.sample) (2 ^ 22)
      t.mix.tdmOut = s.mix.tdmNext ∧ t.mix.tdmNext.length = 48
        ∧ (∀ y ∈ t.mix.tdmNext, -8388608 ≤ y ∧ y ≤ 8388607)
        ∧ t.mix.sample = min 47 (s.mix.sample + 1)
        ∧ t.mix.levels = s.mix.levels ∧ t.mix.masters = s.mix.masters ∧ t.mix.codes = s.mix.codes
        ∧ (∀ b, 1 ≤ b → b ≤ 20 → injectionOf t b = (match (injectionOf s b).ramp with
            | none => injectionOf s b
            | some r =>
              if 479 ≤ r.sample then ⟨r.target, none⟩
              else ⟨((r.start : Int) + (((r.target : Int) - r.start) * (r.sample + 1)).tdiv 480).toNat,
                some { r with sample := r.sample + 1 }⟩))
        ∧ (∀ bus, 1 ≤ bus → bus ≤ 25 →
            (meterOf t bus).peak = max (meterOf s bus).peak (limited (sum bus)).natAbs
              ∧ (meterOf t bus).clips = (if limited (sum bus) = sum bus then (meterOf s bus).clips
                  else min 65535 ((meterOf s bus).clips + 1))
              ∧ (limited (sum bus) ≠ sum bus → Recorded .busClip bus (bytesOf 2 (meterOf t bus).clips) s t)
              ∧ (limited (sum bus) = sum bus →
                  sparseFind t.evr.slots (17 * 32 + bus) = sparseFind s.evr.slots (17 * 32 + bus)))
        ∧ (∀ n, 1 ≤ n → n ≤ 12 → sparseRead 0 t.fbg.sums n
            = sparseRead 0 s.fbg.sums n + (limited (sum (n + 8))).natAbs ^ 2)
        ∧ (∀ bus, 1 ≤ bus → bus ≤ 24 → t.mix.tdmNext.getD (bus - 1) 0 = limited (sum bus))
        ∧ ∀ z, 1 ≤ z → z ≤ 24 →
            if (zoneOf s z).enabled then
              t.mix.tdmNext.getD (23 + z) 0 = limited (zone z)
                ∧ zoneOf t z = { zoneOf s z with
                    clips := if limited (zone z) = zone z then (zoneOf s z).clips
                      else min 65535 ((zoneOf s z).clips + 1) }
            else t.mix.tdmNext.getD (23 + z) 0 = 0 ∧ zoneOf t z = zoneOf s z

/-- The word clock's rows: lost in LOCKED at an absence of 1 ms, 48 sample periods; restored in FREE after 100 ms of presence,
4800 sample periods, each with its CLOCK event; broken presence, with no event and no change of state; elsewhere nothing. A
sample period keeps the two counts and, taken whole, makes the same changes, an absence of 1 ms being lost and a valid edge
after 100 ms of presence restoring. The first millisecond boundary after reset judges, without an event; any other leaves the
selector alone (R163, R164).
The counts in sample periods are the model's reading (log entries 5 and 30); that a row with nothing due changes nothing is its
choice (log entry 8). -/
def Obligations.ClockRowsChangeTheSelector : Prop :=
  ∀ s : State,
    exec .wordClockPresenceBroken s = .next (s.withTmu { s.tmu with present := false, presence := 0, missed := true })
    ∧ exec .clockLost s = .next
        (if s.tmu.locked = true ∧ 48 ≤ s.tmu.absence then
          raiseEvent .clock 0 [0] (s.withTmu { s.tmu with locked := false })
        else s)
    ∧ exec .clockRestored s = .next
        (if s.tmu.locked = false ∧ 4800 ≤ s.tmu.presence then
          raiseEvent .clock 0 [1] (s.withTmu { s.tmu with locked := true, absence := 0 })
        else s)
    ∧ (∀ (xs : SampleInputs) (taking : Taking),
        let absence :=
          if xs.edge = false then s.tmu.absence + 1
          else if s.tmu.locked = true ∧ 48 ≤ s.tmu.absence then s.tmu.absence
          else 0
        let restored := xs.edge = true ∧ s.tmu.locked = false ∧ 4800 ≤ s.tmu.presence
        let lost := s.tmu.locked = true ∧ 48 ≤ absence
        ∃ t, exec (.samplePeriod xs taking) s = .next t ∧ t.tmu.present = xs.edge ∧ t.tmu.absence = absence
          ∧ t.tmu.presence =
              (if xs.edge = true ∧ s.tmu.present = true then min 4800 (s.tmu.presence + 1) else 0)
          ∧ (taking = .split → t.tmu.locked = s.tmu.locked)
          ∧ (taking = .whole → (restored → t.tmu.locked = true) ∧ (lost → t.tmu.locked = false)
              ∧ (¬ restored → ¬ lost → t.tmu.locked = s.tmu.locked))
          ∧ (QuietSeq s → s.ply.players = [] → s.rpu.active = none →
              let raised := match taking with
                | .split => s
                | .whole => if restored then raiseEvent .clock 0 [1] s else if lost then raiseEvent .clock 0 [0] s else s
              sparseFind t.evr.slots 64 = sparseFind raised.evr.slots 64))
    ∧ ∀ (i : BoundaryInputs) (o : BoundaryOrder) (taking : Taking),
        ∃ t, exec (.millisecondBoundary i o taking) s = .next t ∧ t.tmu.judged = true
          ∧ t.tmu.present = s.tmu.present ∧ t.tmu.absence = s.tmu.absence
          ∧ (s.tmu.judged = false →
              let throughout := s.tmu.present && !s.tmu.missed
              t.tmu.locked = throughout ∧ t.tmu.presence = (if throughout then s.tmu.presence else 0)
              ∧ (QuietSeq s → taking = .split → sparseFind t.evr.slots 64 = sparseFind s.evr.slots 64))
          ∧ (s.tmu.judged = true → t.tmu.locked = s.tmu.locked ∧ t.tmu.presence = s.tmu.presence)

/-- The HOLD line (2) and the STOP line (3), their debouncers' count at the debounce: an assertion sets or reverses the line
state by the line's mode, a release clears it in LEVEL mode and changes nothing in TOGGLE mode. An assertion of the GO line is
one GO of origin LINE and its release brings nothing; an assertion of the TALK line is a TALK request on the talk groups with
the holder LINE, and its release takes that holder from the TALK page, which ends or leaves the queue when no holder is left.
The end of BLOCKED delivers nothing on any line. Each debouncer is in its new state with count 0; no other line is touched
(R134, R142, R151, R166, R167).
That a row with nothing due changes nothing is the model's choice (log entry 8). -/
def Obligations.LinesAreDelivered : Prop :=
  (∀ (n : Nat) (s : State), n = 2 ∨ n = 3 → (lineOf s n).debounce ≤ (lineOf s n).count →
    let was := if n = 2 then s.hsu.holdLine else s.hsu.stopLine
    let delivered (i : Instr) (settles : Bool) (state : LineState) (v : Bool) : Prop :=
      ∃ u, exec i s = .next (if settles then settle u else u)
        ∧ lineOf u n = { lineOf s n with state := state, count := 0 }
        ∧ (∀ m, m ≠ n → lineOf u m = lineOf s m)
        ∧ u = (s.withTmu { s.tmu with lines := u.tmu.lines }).withHsu
            (if n = 2 then { s.hsu with holdLine := v } else { s.hsu with stopLine := v })
    ((lineOf s n).state = .released →
        delivered (.lineAssertion n) true .asserted (if (lineOf s n).toggle then !was else true))
      ∧ ((lineOf s n).state = .asserted →
        delivered (.lineRelease n) true .released (if (lineOf s n).toggle then was else false))
      ∧ ((lineOf s n).state = .blocked → delivered (.debounceUnblock n) false .released was))
  ∧ (∀ s : State,
    let asserted (n : Nat) := setLineRecord n { lineOf s n with state := .asserted, count := 0 } s
    ((lineOf s 1).state = .released → (lineOf s 1).debounce ≤ (lineOf s 1).count →
        exec (.lineAssertion 1) s = .next (settle (finishGo (decideGo .line (asserted 1)))))
      ∧ ((lineOf s 1).state = .asserted → (lineOf s 1).debounce ≤ (lineOf s 1).count →
        exec (.lineRelease 1) s
          = .next (settle (setLineRecord 1 { lineOf s 1 with state := .released, count := 0 } s)))
      ∧ ((lineOf s 4).state = .released → (lineOf s 4).debounce ≤ (lineOf s 4).count →
        ∃ r : Page, r.cls = .talk ∧ r.source = .live ∧ r.mask = s.rpu.settings.talkGroups ∧ r.zones = []
          ∧ r.origin = .line ∧ r.heldByLine = true ∧ r.heldByLink = false
          ∧ exec (.lineAssertion 4) s = .next (settle (requestPage r (asserted 4)).1))
      ∧ (∀ n, 1 ≤ n → n ≤ 4 → (lineOf s n).state = .blocked → (lineOf s n).debounce ≤ (lineOf s n).count →
        exec (.debounceUnblock n) s = .next (setLineRecord n { lineOf s n with state := .released, count := 0 } s))
      ∧ ((lineOf s 4).state = .asserted → (lineOf s 4).debounce ≤ (lineOf s 4).count →
        let released := setLineRecord 4 { lineOf s 4 with state := .released, count := 0 } s
        ∃ u, exec (.lineRelease 4) s = .next (settle u)
          ∧ (s.rpu.active = none → u = released)
          ∧ ∀ a, s.rpu.active = some a →
              (a.page.cls = .talk → a.page.heldByLine = false → u = released)
              ∧ (a.page.cls = .talk → a.page.heldByLine = true → a.page.heldByLink = true →
                u = released.withRpu { s.rpu with active := some { a with page := { a.page with heldByLine := false } } })
              ∧ (a.page.cls = .talk → a.page.heldByLine = true → a.page.heldByLink = false → s.rpu.queue = [] →
                sparseRising none s.rpu.zones = true → a.zoneSet.Nodup →
                u.rpu.active = none ∧ u.rpu.queue = [] ∧ u.evr = s.evr ∧ u.tmu = released.tmu ∧ u.seq = s.seq
                  ∧ (∀ z, z ∉ a.zoneSet → zoneOf u z = zoneOf s z)
                  ∧ ∀ z ∈ a.zoneSet, zoneOf u z = { zoneOf s z with
                      inPage := false, paged := false
                      duck := if (zoneOf s z).enabled then (zoneOf s z).duck.start 0 s.rpu.settings.release
                        else ⟨0, none⟩ })
              ∧ (a.page.cls ≠ .talk → u = released.withRpu { s.rpu with
                  queue := (s.rpu.queue.filter fun q => !(q.cls == .talk && q.heldByLine && !q.heldByLink)).map fun q =>
                    if q.cls = .talk then { q with heldByLine := false } else q })))

/-- When 100 ms of the window have passed, every governor stores its measurement and judges it, a GATED one by what it is gated
from: OFF does nothing more; a discarded window and FROZEN know the ceiling alone, and FROZEN hunts once its freeze is over;
the ceiling takes a whole step off the trim; a window below -960 gates; a hunter counts the window in its band or steps its
trim by a quarter of the error, limited twice, and stalls at 64; a converged one hunts again beyond twice the tolerance; a
stalled one stands. GOV_ALERT and GOV_REHUNT tell. Before that nothing happens (R114 to R119).
How the window after a gate and a discard is read, and the order of two alerts in one window, are the model's (log entries 8
and 17). -/
def Obligations.WindowEndJudgesTheGovernors : Prop :=
  ∀ s : State, sparseRising none s.fbg.governors = true →
    (s.fbg.windowMs < 100 → exec .governorWindowEnd s = .next s)
    ∧ (100 ≤ s.fbg.windowMs → ∃ t, exec .governorWindowEnd s = .next t ∧ t.fbg.windowMs = s.fbg.windowMs - 100
        ∧ t.fbg.sums = []
        ∧ (∀ n, (1 ≤ n ∧ n ≤ 12) ∨ governorOf t n = governorOf s n)
        ∧ t = (s.withFbg t.fbg).withEvr { s.evr with slots := t.evr.slots }
        ∧ ∀ n, 1 ≤ n → n ≤ 12 →
          let g := governorOf s n
          let h := governorOf t n
          let m := windowLevel (sparseRead 0 s.fbg.sums n)
          let e := g.target - m
          let step := max (-g.settings.stepMax) (min g.settings.stepMax (e.tdiv 4))
          let stepped := max g.settings.trimMin (min g.settings.trimMax (g.trim + step))
          let lowered := max (g.trim - g.settings.stepMax) g.settings.trimMin
          let loud : Prop := g.settings.ceiling < m
          let by_ := if g.state = .gated then g.gatedFrom.getD .hunting else g.state
          let alone : Prop := g.state ≠ .off ∧ (g.discard = true ∨ g.state = .frozen)
          let judged (w : GovState) : Prop := g.state ≠ .off ∧ g.state ≠ .frozen ∧ g.discard = false ∧ by_ = w
          let audible : Prop := -960 ≤ m ∧ m ≤ g.settings.ceiling
          h.lastM = m ∧ h.settings = g.settings ∧ h.enable = g.enable ∧ h.target = g.target
            ∧ (g.state = .off → h = { g with lastM := m })
            ∧ (alone → ¬loud → h = if g.state = .frozen ∧ freezeCondition s n = false then
                  { g with lastM := m, discard := false, state := .hunting, inBand := 0, settle := 0, gatedFrom := none }
                else { g with lastM := m, discard := false })
            ∧ (alone → loud → h.trim = lowered ∧ h.ceilingCount = min 65535 (g.ceilingCount + 1) ∧ h.discard = false
                ∧ h.state = (if g.state = .frozen ∧ freezeCondition s n = false then .hunting else g.state))
            ∧ (judged .hunting ∨ judged .converged ∨ judged .stalled → loud →
                h.trim = lowered ∧ h.ceilingCount = min 65535 (g.ceilingCount + 1) ∧ h.inBand = 0 ∧ h.gatedFrom = none)
            ∧ (judged .hunting → loud → h.settle = min 64 (g.settle + 1)
                ∧ h.state = if 63 ≤ g.settle then .stalled else .hunting)
            ∧ (judged .converged → loud → h.rehunt = true ∧ h.settle = 1 ∧ h.state = .hunting)
            ∧ (judged .stalled → loud → if freezeCondition s n = true then h.settle = 0 ∧ h.state = .frozen
                else h.settle = 1 ∧ h.state = .hunting)
            ∧ (∀ w, judged w → m < -960 → ¬loud → h = { g with lastM := m, state := .gated, gatedFrom := some w })
            ∧ (judged .hunting → audible →
                if e.natAbs ≤ g.settings.tolerance then
                  h.trim = g.trim ∧ h.inBand = g.inBand + 1 ∧ h.gatedFrom = none
                    ∧ (g.inBand = 2 → h.state = .converged ∧ h.lastSettle = g.settle ∧ h.settle = 0)
                    ∧ (g.inBand ≠ 2 → h.state = .hunting ∧ h.lastSettle = g.lastSettle
                        ∧ h.settle = if g.inBand = 0 then min 64 (g.settle + 1) else g.settle)
                else
                  h.trim = stepped ∧ h.inBand = 0 ∧ h.settle = min 64 (g.settle + 1) ∧ h.gatedFrom = none
                    ∧ h.state = if 63 ≤ g.settle then .stalled else .hunting)
            ∧ (judged .converged → audible →
                if e.natAbs ≤ 2 * g.settings.tolerance then
                  h = { g with lastM := m, state := .converged, gatedFrom := none }
                else
                  h.trim = stepped ∧ h.rehunt = true ∧ h.inBand = 0 ∧ h.settle = 1 ∧ h.state = .hunting
                    ∧ Recorded .govRehunt n (levelBytes m ++ levelBytes g.trim) s t)
            ∧ (judged .stalled → audible → h = { g with lastM := m, state := .stalled, gatedFrom := none })
            ∧ (judged .hunting → -960 ≤ m ∨ loud → h.state = .stalled →
                Recorded .govAlert n ([1] ++ levelBytes h.trim ++ levelBytes m) s t)
            ∧ (alone ∨ judged .converged ∨ judged .stalled ∨ (judged .hunting ∧ g.settle < 63) → loud →
                Recorded .govAlert n ([0] ++ levelBytes lowered ++ levelBytes m) s t))

/-! ### The sequencer -/

/-- ENTER SHOW is answered BUSY while the operation slot is occupied, NOT_CLEAN while preflight-clean is clear, and otherwise
OK with the show state SHOW; LEAVE SHOW is answered OK with the show state SETUP; nothing else changes. SET SEQUENCER in
SETUP replaces both settings, the lockout clamped to 2000 ms; the running lockout, the table and preflight-clean stand;
standby leaves a cut cue for the next cue that is not cut when skip-cut becomes set (R46, R67). -/
def Obligations.ShowIsEnteredOnlyCleanAndSettingsAreReplaced : Prop :=
  (∀ (tag : Nat) (s : State), LinkOpen s →
    (s.cmc.slot ≠ none → Decided (.enterShow tag) s 0x10 tag .busy [] (heard s))
    ∧ (s.cmc.slot = none → s.cst.clean = false → Decided (.enterShow tag) s 0x10 tag .notClean [] (heard s))
    ∧ (s.cmc.slot = none → s.cst.clean = true →
        Decided (.enterShow tag) s 0x10 tag .ok [] ((heard s).withSeq { s.seq with showState := .inShow }))
    ∧ Decided (.leaveShow tag) s 0x11 tag .ok [] ((heard s).withSeq { s.seq with showState := .setup }))
  ∧ (∀ (tag skip lockout : Nat) (s : State), LinkOpen s → s.seq.showState = .setup → saving s = false → skip ≤ 1 →
    ∃ u, Decided (.setSequencer tag skip lockout) s 0x1C tag (if 2000 < lockout then .okClamped else .ok) [] u
      ∧ u.seq.skipCut = decide (skip = 1) ∧ u.seq.lockoutSetting = min 2000 lockout
      ∧ u.seq.lockout = s.seq.lockout ∧ u.seq.entries = s.seq.entries ∧ u.seq.showState = s.seq.showState
      ∧ u.cst = s.cst ∧ u.evr = s.evr ∧ u.mix = s.mix ∧ u.tmu = s.tmu ∧ u.rpu = s.rpu ∧ u.hsu = s.hsu
      ∧ (∀ k c, s.seq.standby = some k → cueAt s k = some c →
          u.seq.standby
            = if skip = 1 ∧ c.cut = true then
                firstIndexFrom (fun d => !d.cut) s.cst.cues k 1
              else some k)
      ∧ (s.seq.standby = none → u.seq.standby = none))

/-- While the show state is SHOW no command changes the cue list, the snapshot table, the clip directory or the flash, as long
as the state after it is SHOW too; and a command that brings SHOW leaves preflight-clean set (R46). -/
def Obligations.ShowHoldsTheStoredShow : Prop :=
  ∀ (i : Instr) (s t : State), ShowLaw s → exec i s = .next t → t.seq.showState = .inShow →
    (s.seq.showState = .inShow →
      t.cst.cues = s.cst.cues ∧ t.cst.snapshots = s.cst.snapshots ∧ t.cmc.directory = s.cmc.directory
        ∧ t.cmc.flash = s.cmc.flash)
    ∧ (s.seq.showState = .setup → t.cst.clean = true)

/-- What SHOW rests on: a program or erase in flight belongs to an operation that writes, and no such operation and no show load
is in the slot while the show state is SHOW. The running-cue table holds at most 16 entries and never two for one cue (R46,
R59, R100). -/
def Obligations.EveryStepKeepsTheShowAndTableLaws : Prop :=
  (∀ s t : State, ShowLaw s → step s = .next t → ShowLaw t)
  ∧ (∀ s t : State, TableLaw s → step s = .next t → TableLaw t)

/-- A GO accepted on the standby cue, from the link or from the GO line: an entry of the cue already running has ended early, its
fades and plays unowned, with no CUE_DONE; one entry in the lowest free slot, one GO record entry, CUE_FIRED, the lockout
started, standby on the next eligible cue, which is the entry's follow target, END_OF_LIST when there is none, and the reply
OK with the cue's number. Then the entry's prewait ends if it is 0, and SEQ takes what follows. Where nothing of the cue falls
due at once and SEQ is quiet, the state is given whole: the entry in PREWAIT, or ACTIVE for a prewait of 0, the other entries
as they were (R15, R50, R51, R54, R55, R59, R60, R63, R89, R167). -/
def Obligations.GoFiresTheStandbyCue : Prop :=
  ∀ (tag index k : Nat) (cue : Cue) (s : State), s.hsu.holdEffective = false → s.seq.lockout = 0 →
    s.seq.standby = some index → cueAt s index = some cue → cue.cut = false → s.tmu.goRecord.length ≤ 32 → TableLaw s →
    sparseRising none s.ply.players = true → LowestFree (tableWithout s cue.number) k →
    let number : List Field := [.bytes (cueBytes (some cue.number))]
    let next := nextEligible s index
    let target := next.bind fun k => (cueAt s k).map fun c => c.number
    let fired (origin : Origin) (e : Entry) (t : State) : Prop :=
      t.seq = { s.seq with
          standby := next, lockout := s.seq.lockoutSetting
          entries := sparsePut (tableWithout s cue.number) k (some e) }
        ∧ t.tmu.goRecord = s.tmu.goRecord.drop (s.tmu.goRecord.length - 31)
            ++ [⟨cue.number, s.tmu.clock, origin, if s.tmu.goRecord = [] then 0 else s.tmu.interval⟩]
        ∧ t.tmu.interval = 0 ∧ t.tmu.clock = s.tmu.clock ∧ t.tmu.timers = s.tmu.timers ∧ t.tmu.marks = s.tmu.marks
        ∧ t.evr = (let fired := raiseEvent .cueFired 0 (cueBytes (some cue.number) ++ bytesOf 1 origin.number) s
            if next = none then raiseEvent .endOfList 0 (cueBytes (some cue.number)) fired else fired).evr
        ∧ t.mix = { s.mix with slots := slotsWithout s cue.number }
        ∧ (∀ n, 1 ≤ n → n ≤ 8 → (playerOf s n).state = .playing ∨ (playerOf s n).state = .releasingStop
              ∨ (playerOf s n).state = .pausedPlaying ∨ (playerOf s n).state = .pausedReleasing →
            (playerOf t n).owner = ownerWithout s cue.number (playerOf s n).owner
              ∧ (playerOf t n).state = (playerOf s n).state ∧ (playerOf t n).position = (playerOf s n).position
              ∧ (playerOf t n).env = (playerOf s n).env)
        ∧ t.cst = s.cst ∧ t.fbg = s.fbg ∧ t.rpu = s.rpu ∧ t.hsu = s.hsu
        ∧ t.cmc.flash = s.cmc.flash ∧ t.cmc.directory = s.cmc.directory
    let lineDue : Prop := (lineOf s 1).state = .released ∧ (lineOf s 1).debounce ≤ (lineOf s 1).count
    let asserted (t : State) : Prop := t.clink = s.clink ∧ t.tmu.lines = (enterLineState .asserted 1 s).tmu.lines
    let rest (u : State) : State := finishGo ⟨.accepted cue.number, some k, prewaitEnd k u⟩
    (LinkOpen s → ∃ u, fired .link (Entry.initial cue .link target) u
        ∧ Decided (.go tag) s 0x18 tag .ok number (rest u))
    ∧ (lineDue → ∃ u, fired .line (Entry.initial cue .line target) u ∧ asserted u
        ∧ exec (.lineAssertion 1) s = .next (settle (rest u)))
    ∧ (QuietSeq s → cue.Waits →
      (LinkOpen s → ∃ t, exec (.go tag) s = .next t ∧ fired .link (Entry.started cue .link target) t
        ∧ t.clink.replies = s.clink.replies ++ [⟨0x18, tag, .ok, number⟩])
      ∧ (lineDue → ∃ t, exec (.lineAssertion 1) s = .next t ∧ fired .line (Entry.started cue .line target) t ∧ asserted t))

/-- A GO request that is refused - HELD or STOP under hold, LOCKOUT, END, FULL when 16 cues run and the standby cue is none of
them - changes nothing of SEQ, raises GO_REFUSED with the reason and the standby cue, and is answered with the reason. A GO that meets a cut standby cue passes it: standby moves to
the next eligible cue, the lockout starts, CUT_PASSED is raised, and END_OF_LIST when standby becomes NONE; no entry and no
GO record entry is made; the reply is CUT with the cue's number. SEQ then takes what was due anyway (R50, R53). -/
def Obligations.RefusedAndPassedGoFireNothing : Prop :=
  ∀ (tag : Nat) (s : State), LinkOpen s →
    let refused (status : Status) (reason : Byte) : Prop :=
      Decided (.go tag) s 0x18 tag status []
        (settleSeq (sweep (raiseEvent .goRefused 2 (reason :: cueBytes (standbyNumber s)) (heard s))))
    (s.hsu.holdEffective = true → s.hsu.stopActive = false → refused .held 0)
    ∧ (s.hsu.holdEffective = true → s.hsu.stopActive = true → refused .stop 1)
    ∧ (s.hsu.holdEffective = false → 0 < s.seq.lockout → refused .lockout 2)
    ∧ (s.hsu.holdEffective = false → s.seq.lockout = 0 → s.seq.standby = none → refused .endOfList 3)
    ∧ (∀ (index : Nat) (cue : Cue), s.hsu.holdEffective = false → s.seq.lockout = 0 → s.seq.standby = some index →
        cueAt s index = some cue → cue.cut = false → entryRunning s cue.number = none →
        (∀ k, 1 ≤ k → k ≤ 16 → sparseFind s.seq.entries k ≠ none) → refused .full 4)
    ∧ ∀ (index : Nat) (cue : Cue), s.hsu.holdEffective = false → s.seq.lockout = 0 →
        s.seq.standby = some index → cueAt s index = some cue → cue.cut = true →
        ∃ u, Decided (.go tag) s 0x18 tag .cut [.bytes (cueBytes (some cue.number))] (settleSeq (sweep u))
          ∧ u.seq = { s.seq with standby := nextEligible s index, lockout := s.seq.lockoutSetting }
          ∧ u.tmu = s.tmu ∧ u.cst = s.cst ∧ u.mix = s.mix ∧ u.fbg = s.fbg ∧ u.rpu = s.rpu ∧ u.hsu = s.hsu
          ∧ u.evr = (let passed := raiseEvent .cutPassed 0 (cueBytes (some cue.number)) s
              if nextEligible s index = none then raiseEvent .endOfList 0 (cueBytes (some cue.number)) passed
              else passed).evr

/-- Every accepted GO or FIRE adds exactly one GO record entry and exactly one running-cue entry, that of its cue; a GO or FIRE
that is refused and a GO that passes a cut cue add no GO record entry (R55). -/
def Obligations.AcceptedGoAddsOneEntryAndOneRecord : Prop :=
  ∀ (s : State) (r : GoResult), TableLaw s → s.tmu.goRecord.length ≤ 32 →
    ((∃ origin, r = decideGo origin s) ∨ ∃ number, r = decideFire number s) →
    let others (cue : CueNumber) (x : State) :=
      (x.seq.entries.filter fun e => decide (e.2.cue.number ≠ cue)).map fun e => (e.1, e.2.cue.number)
    (∀ cue, r.outcome = .accepted cue →
      others cue r.state = others cue s
        ∧ (r.state.seq.entries.filter fun e => decide (e.2.cue.number = cue)).length = 1
        ∧ (∃ e, r.state.tmu.goRecord = s.tmu.goRecord.drop (s.tmu.goRecord.length - 31) ++ [e]
            ∧ e.cue = cue ∧ e.time = s.tmu.clock))
    ∧ ((∀ cue, r.outcome ≠ .accepted cue) →
        r.state.tmu.goRecord = s.tmu.goRecord ∧ r.state.seq.entries.length ≤ s.seq.entries.length)

/-- FIRE of a cue: an entry of the cue already running has ended early; one entry of origin FIRE in the lowest free slot, whose
follow target is the standby cue, one GO record entry and CUE_FIRED; standby and the lockout stand; then the entry's prewait
ends if it is 0. Where nothing of the cue falls due at once and SEQ is quiet, the state is given whole. A number out of range,
hold, a number not in the list, a cut cue and a table with 16 other cues running are refused in this order, with no event. LOCATE finds, of the cues it does not pass over, the one with the number, the
lowest at or above it or the highest at or below it; standby becomes that cue and the reply carries its number; when there
is none, NOT_FOUND, and nothing changes; running cues, lockout and records are untouched (R54, R56,
R57). -/
def Obligations.FireRunsAndLocateFindsByNumber : Prop :=
  (∀ (tag : Nat) (number : CueNumber) (s : State), LinkOpen s →
    (cueNumberInRange number = false → Decided (.fire tag number) s 0x19 tag .outOfRange [] (heard s))
    ∧ (cueNumberInRange number = true → s.hsu.holdEffective = true →
        Decided (.fire tag number) s 0x19 tag (if s.hsu.stopActive then .stop else .held) []
          (settleSeq (sweep (heard s))))
    ∧ (cueNumberInRange number = true → s.hsu.holdEffective = false → cueNamed s number = none →
        Decided (.fire tag number) s 0x19 tag .notFound [] (settleSeq (sweep (heard s))))
    ∧ (∀ cue, cueNumberInRange number = true → s.hsu.holdEffective = false → cueNamed s number = some cue →
        cue.cut = true → Decided (.fire tag number) s 0x19 tag .cut [] (settleSeq (sweep (heard s))))
    ∧ (∀ cue, cueNumberInRange number = true → s.hsu.holdEffective = false → cueNamed s number = some cue →
        cue.cut = false → entryRunning s number = none → (∀ k, 1 ≤ k → k ≤ 16 → sparseFind s.seq.entries k ≠ none) →
        Decided (.fire tag number) s 0x19 tag .full [] (settleSeq (sweep (heard s))))
    ∧ ∀ cue k, cueNumberInRange number = true → s.hsu.holdEffective = false → cueNamed s number = some cue →
        cue.cut = false → s.tmu.goRecord.length ≤ 32 → TableLaw s → LowestFree (tableWithout s number) k →
        let fired (e : Entry) (t : State) : Prop :=
          t.seq = { s.seq with entries := sparsePut (tableWithout s number) k (some e) }
            ∧ t.tmu = { s.tmu with
                interval := 0
                goRecord := s.tmu.goRecord.drop (s.tmu.goRecord.length - 31)
                  ++ [⟨number, s.tmu.clock, .fire, if s.tmu.goRecord = [] then 0 else s.tmu.interval⟩] }
            ∧ t.evr = (raiseEvent .cueFired 0 (cueBytes (some number) ++ [3]) s).evr
            ∧ t.mix = { s.mix with slots := slotsWithout s number }
            ∧ (entryRunning s number = none → t.ply = s.ply)
            ∧ (sparseRising none s.ply.players = true → ∀ n, 1 ≤ n → n ≤ 8 →
                (playerOf t n).owner = ownerWithout s number (playerOf s n).owner)
            ∧ t.cst = s.cst ∧ t.fbg = s.fbg ∧ t.rpu = s.rpu ∧ t.hsu = s.hsu
        let answer : List Field := [.bytes (cueBytes (some number))]
        (∃ u, fired (Entry.initial cue .fire (standbyNumber s)) u
          ∧ Decided (.fire tag number) s 0x19 tag .ok answer (finishGo ⟨.accepted number, some k, prewaitEnd k u⟩))
        ∧ (QuietSeq s → cue.Waits → ∃ t, exec (.fire tag number) s = .next t
          ∧ fired (Entry.started cue .fire (standbyNumber s)) t
          ∧ t.clink.replies = s.clink.replies ++ [⟨0x19, tag, .ok, answer⟩]))
  ∧ (∀ (tag mode flag : Nat) (number : CueNumber) (s : State), LinkOpen s → cuesRising s.cst.cues = true →
    cueNumberInRange number = true → mode ≤ 2 → flag ≤ 1 →
    let landable (c : Cue) : Prop :=
      ¬(c.cut = true ∧ (s.seq.skipCut = true ∨ flag = 1))
        ∧ (mode = 0 → c.number = number) ∧ (mode = 1 → number.le c.number = true)
        ∧ (mode = 2 → c.number.le number = true)
    ((∀ c ∈ s.cst.cues, ¬landable c) →
        Decided (.locate tag number mode flag) s 0x1A tag .notFound [] (heard s))
    ∧ ((∃ c ∈ s.cst.cues, landable c) →
        ∃ (k : Nat) (c : Cue) (u : State), cueAt s k = some c ∧ landable c
          ∧ (∀ d ∈ s.cst.cues, landable d →
              if mode = 2 then d.number.le c.number = true else c.number.le d.number = true)
          ∧ Decided (.locate tag number mode flag) s 0x1A tag .ok [.bytes (cueBytes (some c.number))] u
          ∧ u.seq = { s.seq with standby := some k }
          ∧ u.tmu = s.tmu ∧ u.evr = s.evr ∧ u.cst = s.cst ∧ u.mix = s.mix ∧ u.rpu = s.rpu ∧ u.hsu = s.hsu))

/-- RESET SHOW is answered HELD while show stop is active. Otherwise every block takes its show reset: the running-cue table,
the fade slots, the page queue, the marks and the GO record are empty, the lockout is 0, trims are 0, timers are disarmed,
the crosspoints of snapshot 0 take its entries and the others stand, the zones of the page that ends are released, the hold request flag is clear, standby is the first eligible cue; show state, settings, clock, published values, event
table, cue store and flash stand (R68, R69). -/
def Obligations.ResetShowResetsEveryBlock : Prop :=
  ∀ (tag : Nat) (s : State), LinkOpen s →
    (s.hsu.stopActive = true → Decided (.resetShow tag) s 0x12 tag .held [] (heard s))
    ∧ (s.hsu.stopActive = false → sparseRising none s.fbg.governors = true → sparseRising none s.tmu.timers = true →
        sparseRising none s.ply.players = true →
      ∃ u, Decided (.resetShow tag) s 0x12 tag .ok [] u
        ∧ u.seq = { s.seq with entries := [], lockout := 0, standby := nextEligible s 0 }
        ∧ u.mix.slots = [] ∧ u.mix.masters = s.mix.masters ∧ u.mix.meters = s.mix.meters
        ∧ u.mix.levels = (applyPreset s).mix.levels
        ∧ (s.rpu.active = none → u.rpu.zones = s.rpu.zones)
        ∧ (∀ a, s.rpu.active = some a → sparseRising none s.rpu.zones = true → a.zoneSet.Nodup →
            (∀ z, z ∉ a.zoneSet → zoneOf u z = zoneOf s z)
            ∧ ∀ z ∈ a.zoneSet, zoneOf u z = { zoneOf s z with
                inPage := false, paged := false
                duck := if (zoneOf s z).enabled then (zoneOf s z).duck.start 0 s.rpu.settings.release else ⟨0, none⟩ })
        ∧ u.rpu.queue = [] ∧ u.rpu.active = none ∧ u.rpu.voice.state = .idle
        ∧ u.rpu.voice.underruns = s.rpu.voice.underruns ∧ u.rpu.nextNumber = s.rpu.nextNumber
        ∧ u.tmu.marks = [] ∧ u.tmu.goRecord = [] ∧ u.tmu.interval = 0 ∧ u.tmu.clock = s.tmu.clock
        ∧ u.tmu.lines = s.tmu.lines
        ∧ (∀ n, 1 ≤ n → n ≤ 8 → timerOf u n = { timerOf s n with state := .disarmed }
            ∧ (playerOf u n).underruns = (playerOf s n).underruns
            ∧ ((playerOf u n).state = .idle ∨ (playerOf u n).state = .loading))
        ∧ (∀ n, 1 ≤ n → n ≤ 12 → (governorOf u n).trim = 0 ∧ (governorOf u n).rehunt = false
            ∧ (governorOf u n).settings = (governorOf s n).settings
            ∧ (governorOf u n).state
                = if (governorOf s n).settings.enable = false then .off
                  else if s.hsu.holdEffective then .frozen else .hunting)
        ∧ u.hsu = { s.hsu with holdRequest := false }
        ∧ u.evr = s.evr ∧ u.cst = s.cst ∧ u.cmc.flash = s.cmc.flash ∧ u.cmc.slot = s.cmc.slot
        ∧ u.clink = (heard s).clink)

/-- A prewait that has run out, the only entry of the table, hold not effective: a cue whose actions all lie later becomes
ACTIVE with elapsed 0; a marker cue with follow NONE is removed with CUE_DONE. A postwait that has run out on a finished
entry, the only one: with a follow target that is not the standby cue the entry goes with CUE_DONE DROPPED and standby
stands; with the standby cue as target, not cut and with a prewait, an AUTO GO fires it into the slot just freed, without
the lockout. An entry with an action still due does not expire, its actions firing first (R51, R59, R60, R63, R64).
That a row with nothing due changes nothing is the model's choice (log entry 8). -/
def Obligations.PrewaitsEndAndPostwaitsExpire : Prop :=
  (∀ (slot : Nat) (e : Entry) (s : State), 1 ≤ slot → slot ≤ 16 → s.seq.entries = [(slot, e)] → e.phase = .prewait →
    e.prewait = 0 → s.hsu.holdEffective = false → e.cue.follow = .none → e.postwait = .absent →
    (.unfired ∈ e.states → (∀ a ∈ e.cue.actions, 0 < a.offset) →
      ∃ t, exec (.prewaitEnd slot) s = .next t
        ∧ t.seq = { s.seq with entries := [(slot, { e with phase := .active, elapsed := 0 })] }
        ∧ t.evr = s.evr ∧ t.mix = s.mix ∧ t.ply = s.ply ∧ t.rpu = s.rpu ∧ t.tmu = s.tmu ∧ t.cst = s.cst)
    ∧ (e.cue.actions = [] → e.states = [] → e.outcome = .none →
      ∃ t, exec (.prewaitEnd slot) s = .next t
        ∧ t.seq = { s.seq with entries := [] }
        ∧ t.evr = (raiseEvent .cueDone 0 (cueBytes (some e.cue.number) ++ [0]) s).evr
        ∧ t.mix = s.mix ∧ t.rpu = s.rpu ∧ t.tmu = s.tmu ∧ t.cst = s.cst))
  ∧ (∀ (slot : Nat) (e : Entry) (s : State), 1 ≤ slot → slot ≤ 16 → s.seq.entries = [(slot, e)] → e.phase = .done →
    e.outstanding = 0 → e.postwait = .running 0 → s.hsu.holdEffective = false →
    ((e.followTarget = none ∨ standbyNumber s ≠ e.followTarget) →
      ∃ t, exec (.postwaitExpiry slot) s = .next t ∧ t.seq = { s.seq with entries := [] }
        ∧ t.evr = (raiseEvent .cueDone 0 (cueBytes (some e.cue.number) ++ [4]) s).evr
        ∧ t.mix = s.mix ∧ t.rpu = s.rpu ∧ t.tmu = s.tmu ∧ t.cst = s.cst)
    ∧ ∀ index cue, s.seq.standby = some index → cueAt s index = some cue → e.followTarget = some cue.number →
        cue.cut = false → 0 < cue.prewait →
        ∃ t, exec (.postwaitExpiry slot) s = .next t
          ∧ t.seq = { s.seq with
              standby := nextEligible s index
              entries := [(1, Entry.initial cue .auto
                ((nextEligible s index).bind fun k => (cueAt s k).map fun c => c.number))] }
          ∧ (∃ g, t.tmu.goRecord.getLast? = some g ∧ g.cue = cue.number ∧ g.origin = .auto ∧ g.time = s.tmu.clock)
          ∧ t.mix = s.mix ∧ t.rpu = s.rpu ∧ t.cst = s.cst)
  ∧ ∀ (slot : Nat) (e : Entry) (s : State), sparseFind s.seq.entries slot = some e → e.nextDue ≠ none →
      exec (.postwaitExpiry slot) s = .next (settle s)

/-- The action that fires next is the UNFIRED one with the least offset at or below the elapsed time, the first among equals;
outside hold it is handed to its owning block, OUTSTANDING when it is tracked and COMPLETE otherwise, the entry DONE when
it was the last (R59 to R61).
That a row with nothing due changes nothing is the model's choice (log entry 8). -/
def Obligations.ActionsFireInOrderOfOffset : Prop :=
  ∀ (slot index : Nat) (e : Entry) (a : Action) (s : State), sparseFind s.seq.entries slot = some e →
    e.phase = .active → e.cue.actions[index]? = some a → e.states.length = e.cue.actions.length →
    (e.states[index]? = some .unfired ∧ a.offset ≤ e.elapsed
      ∧ ∀ j b, e.cue.actions[j]? = some b → e.states[j]? = some .unfired → b.offset ≤ e.elapsed →
          a.offset < b.offset ∨ (a.offset = b.offset ∧ index ≤ j)) →
    s.hsu.holdEffective = false →
    let states := e.states.set index (if tracked a.work then .outstanding else .complete)
    let fired := { e with states := states, phase := if states.contains .unfired then .active else .done }
    exec (.actionFire slot (index + 1)) s
      = .next (settle (handOver ⟨slot, index + 1⟩ e.cue.number a.work (setEntry slot (some fired) s)))

/-- What the action that fires does, by its kind: FADE asks for its fade with the action as owner; SNAP recalls its snapshot's
entries one after the other as fades of one recall number, or is complete at once when the snapshot is absent; PLAY loads an
idle player for a play that the action owns unless it is endless, and an absent clip is a MEMORY_FAULT with the player
untouched; STOP releases a sounding player; CALL asks for a page of class CALL; GOVERN sets a governor's target or disables
it; TIMER arms its timer from now on; MARK writes its mark with the clock and the cue's number (R14, R36, R61, R77, R84, R123,
R134, R168, R171).
That a row with nothing due changes nothing is the model's choice (log entry 8). -/
def Obligations.ActionsActByTheirKind : Prop :=
  ∀ (slot index : Nat) (e : Entry) (a : Action) (s : State), sparseFind s.seq.entries slot = some e →
    e.nextDue = some (index + 1) → e.cue.actions[index]? = some a → s.hsu.holdEffective = false → FadeLaw s →
    sparseRising none s.ply.players = true → sparseRising none s.fbg.governors = true →
    sparseRising none s.tmu.timers = true → sparseRising none s.tmu.marks = true →
    let tells : Bool := match a.work with
      | .fade _ _ _ _ => true
      | .snap _ _ => true
      | .play _ _ loops _ _ => decide (loops ≠ 0)
      | .stop _ _ | .call _ _ _ | .govern _ _ | .timer _ _ _ | .mark _ | .unknown _ => false
    let entry (st : ActionState) : Entry :=
      let states := e.states.set index st
      { e with states := states, phase := if states.contains .unfired then .active else .done }
    let me : Owner := ⟨slot, index + 1⟩
    let f := setEntry slot (some (entry (if tells then .outstanding else .complete))) s
    ∃ u, exec (.actionFire slot (index + 1)) s = .next (settle u)
      ∧ (∀ source bus x time, a.work = .fade source bus x time → u = fadeRequest 0 source bus x time (.cue me) f)
      ∧ (∀ id time, a.work = .snap id time →
        (sparseFind s.cst.snapshots id = none → sparseFind u.seq.entries slot = some (entry .complete)
          ∧ u.cst = s.cst ∧ u.mix.slots = s.mix.slots ∧ u.mix.levels = s.mix.levels)
        ∧ ∀ list, sparseFind s.cst.snapshots id = some list →
            (∀ x ∈ s.mix.slots, ∀ o, x.2.owner ≠ .recall s.mix.nextRecall o) →
            let n := s.mix.nextRecall
            let begun := (f.withMix { s.mix with nextRecall := if n = 65535 then 1 else n + 1 }).withCst
              { s.cst with lastRecalled := some id, lastRecallNumber := n, recalledSinceRead := true }
            let v := list.foldl (fun x k => fadeRequest n k.source k.bus k.level time (.recall n (some me)) x) begun
            u.mix = v.mix ∧ u.cst = v.cst
              ∧ ((∃ x ∈ v.mix.slots, ∃ o, x.2.owner = .recall n o) → u = v)
              ∧ ((∀ x ∈ v.mix.slots, ∀ o, x.2.owner ≠ .recall n o) →
                  sparseFind v.seq.entries slot = some (entry .outstanding) →
                  sparseFind u.seq.entries slot = some (entry .complete)))
      ∧ (∀ n clip loops x attack, a.work = .play n clip loops x attack →
        (clipEntry s clip = none → u.ply = s.ply
          ∧ u.evr = (raiseEvent .memoryFault n (bytesOf 1 0 ++ bytesOf 2 clip ++ bytesOf 4 0) s).evr
          ∧ sparseFind u.seq.entries slot = some (entry .complete))
        ∧ ∀ d, clipEntry s clip = some d → (playerOf s n).state = .idle →
            u.seq = f.seq ∧ (playerOf u n).state = .loading ∧ (playerOf u n).clip = some clip
              ∧ (playerOf u n).copy = some d ∧ (playerOf u n).fetchNext = some 0
              ∧ (playerOf u n).pending = some ⟨clip, loops, x, attack, if loops = 0 then none else some me, 0⟩
              ∧ ∀ m, m ≠ n → playerOf u m = playerOf s m)
      ∧ (∀ n release, a.work = .stop n release → (playerOf s n).state = .playing → 0 < release →
        (playerOf s n).env.level ≠ off → u.seq = f.seq
          ∧ playerOf u n = { playerOf s n with
              state := .releasingStop
              env := ⟨(playerOf s n).env.level, (playerOf s n).env.level, -1536, 0, release⟩ })
      ∧ (∀ clip target cls, a.work = .call clip target cls →
        ∃ r : Page, r.cls = .call ∧ r.source = .clip clip ∧ r.origin = .action ∧ r.replayed = false
          ∧ (r.mask, r.zones) = (match target with
              | .groups mask => (mask, [])
              | .zone z => (0, [z])
              | .invalid _ _ => (0, []))
          ∧ u = (requestPage r f).1)
      ∧ (∀ n x, a.work = .govern n x →
        let g := governorOf s n
        let set : Governor := { g with target := x, enable := true }
        u = f.withFbg u.fbg ∧ (∀ m, m ≠ n → governorOf u m = governorOf s m)
          ∧ (x = off → governorOf u n = { g with
              enable := false, state := .off, inBand := 0, settle := 0, gatedFrom := none, discard := false })
          ∧ (x ≠ off → governorOf u n = (match g.state with
              | .off | .converged | .stalled =>
                { set with
                  state := if freezeCondition s n then .frozen else .hunting
                  inBand := 0, settle := 0, gatedFrom := none, discard := true }
              | .hunting => { set with inBand := 0 }
              | .gated =>
                if freezeCondition s n then { set with state := .frozen, inBand := 0, settle := 0, gatedFrom := none }
                else { set with gatedFrom := some .hunting, inBand := 0 }
              | .frozen => set)))
      ∧ (∀ n delay payload, a.work = .timer n delay payload → 1 ≤ delay → delay ≤ 2147483647 →
        u = f.withTmu { s.tmu with timers := u.tmu.timers } ∧ (∀ m, m ≠ n → timerOf u m = timerOf s m)
          ∧ timerOf u n = ⟨.armed, s.tmu.clock + BitVec.ofNat 32 delay, payload, false⟩)
      ∧ (∀ id, a.work = .mark id → u = f.withTmu { s.tmu with marks := u.tmu.marks }
          ∧ sparseFind u.tmu.marks id = some ⟨s.tmu.clock, e.cue.number⟩
          ∧ ∀ k, k ≠ id → sparseFind u.tmu.marks k = sparseFind s.tmu.marks k)

/-! ### The cue store -/

/-- WRITE CUE in SETUP, of a cue in range that is not running and has room: the cue stands in the list with its levels and times
clamped, every other cue stands, the list stays in number order, preflight-clean is clear, a preflight in the slot is
aborted, and standby stays on its cue unless that is the cue written. WRITE SNAPSHOT in SETUP, of entries in range with room
in the pool, stores them with their levels clamped; DELETE SNAPSHOT empties a place that holds one and answers NOT_FOUND for
one that is absent; every other place stands, preflight-clean is clear, and fades run on (R26, R29, R30, R34, R38, R43, R48). -/
def Obligations.CuesAndSnapshotsAreWritten : Prop :=
  (∀ (tag : Nat) (b : CueBody) (s : State), LinkOpen s → s.seq.showState = .setup → saving s = false →
    cueInRange b = true → entryRunning s b.number = none → cuesRising s.cst.cues = true →
    (cueNamed s b.number ≠ none ∨ s.cst.cues.length < 512) →
    b.actions.length ≤ actionPoolFree s + actionsOf s b.number →
    ∃ u, Decided (.writeCue tag b) s 0x20 tag (if clampCue b = b then .ok else .okClamped) [] u
      ∧ cueNamed u b.number = some (cueOf (clampCue b))
      ∧ (∀ n, n ≠ b.number → cueNamed u n = cueNamed s n)
      ∧ cuesRising u.cst.cues = true ∧ u.cst.clean = false ∧ u.cst.snapshots = s.cst.snapshots
      ∧ u.seq.entries = s.seq.entries ∧ u.seq.lockout = s.seq.lockout ∧ u.seq.showState = s.seq.showState
      ∧ (∀ n, standbyNumber s = some n → n ≠ b.number → standbyNumber u = some n)
      ∧ (∀ v w, s.cmc.slot = some (.preflight v w) →
          u.cmc.slot = none ∧ u.cst.report = { s.cst.report with status := .aborted }
            ∧ u.evr = (raiseEvent .opDone 0 [5, 2, 0] s).evr)
      ∧ ((∀ v w, s.cmc.slot ≠ some (.preflight v w)) →
          u.cmc.slot = s.cmc.slot ∧ u.cst.report = s.cst.report ∧ u.evr = s.evr)
      ∧ u.mix = s.mix ∧ u.fbg = s.fbg ∧ u.rpu = s.rpu ∧ u.hsu = s.hsu ∧ u.tmu = s.tmu ∧ u.cmc.flash = s.cmc.flash
      ∧ u.cmc.directory = s.cmc.directory)
  ∧ (∀ (tag id : Nat) (entries : List SnapEntry) (s : State), LinkOpen s → s.seq.showState = .setup → saving s = false →
    id ≤ 127 → sparseRising none s.cst.snapshots = true →
    let edited (u : State) (now : Option (List SnapEntry)) : Prop :=
      sparseFind u.cst.snapshots id = now ∧ (∀ k, k ≠ id → sparseFind u.cst.snapshots k = sparseFind s.cst.snapshots k)
        ∧ u.cst.clean = false ∧ u.cst.cues = s.cst.cues ∧ u.seq = s.seq ∧ u.mix = s.mix ∧ u.ply = s.ply ∧ u.fbg = s.fbg
        ∧ u.rpu = s.rpu ∧ u.hsu = s.hsu ∧ u.tmu = s.tmu ∧ u.cmc.flash = s.cmc.flash
    (snapshotInRange id entries = true → entries.length ≤ entryPoolFree s + entriesOf s id →
      ∃ u, Decided (.writeSnapshot tag id entries) s 0x24 tag
          (if ∀ e ∈ entries, -1536 ≤ e.level ∧ e.level ≤ 192 then .ok else .okClamped) [] u
        ∧ edited u (some (entries.map fun e => { e with level := max (-1536) (min 192 e.level) })))
    ∧ (sparseFind s.cst.snapshots id ≠ none → ∃ u, Decided (.deleteSnapshot tag id) s 0x26 tag .ok [] u ∧ edited u none)
    ∧ (sparseFind s.cst.snapshots id = none → Decided (.deleteSnapshot tag id) s 0x26 tag .notFound [] (heard s)))

/-- DELETE CUE is refused BUSY during a show load, LOCKED in SHOW, BUSY during SAVE SHOW, OUT_OF_RANGE for a number out of
range, NOT_FOUND for one no cue has, IN_USE for a running cue, and then changes nothing. Otherwise the cue is gone and its
actions are back in the pool, every other cue stands, preflight-clean is clear, a preflight in progress is aborted, standby
stays on its cue, or moves to the next eligible cue when its cue was deleted, and running entries keep their follow targets
(R31, R48). -/
def Obligations.DeleteCueRemovesTheCue : Prop :=
  ∀ (tag : Nat) (n : CueNumber) (s : State), LinkReady s → cuesRising s.cst.cues = true →
    let refused (status : Status) : Prop := Decided (.deleteCue tag n) s 0x22 tag status [] (heard s)
    (loading s = true → refused .busy)
    ∧ (loading s = false → s.seq.showState = .inShow → refused .locked)
    ∧ (s.seq.showState = .setup → saving s = true → refused .busy)
    ∧ (loading s = false → s.seq.showState = .setup → saving s = false →
      (cueNumberInRange n = false → refused .outOfRange)
      ∧ (cueNumberInRange n = true → cueNamed s n = none → refused .notFound)
      ∧ (cueNumberInRange n = true → cueNamed s n ≠ none → entryRunning s n ≠ none → refused .inUse)
      ∧ ∀ c, cueNumberInRange n = true → cueNamed s n = some c → entryRunning s n = none →
        ∃ u, Decided (.deleteCue tag n) s 0x22 tag .ok [] u ∧ cueNamed u n = none
          ∧ (∀ m, m ≠ n → cueNamed u m = cueNamed s m) ∧ cuesRising u.cst.cues = true ∧ u.cst.clean = false
          ∧ (u.cst.cues.map fun d => d.actions.length).sum + c.actions.length
              = (s.cst.cues.map fun d => d.actions.length).sum
          ∧ u.seq.entries = s.seq.entries ∧ u.seq.lockout = s.seq.lockout
          ∧ (∀ m, standbyNumber s = some m → m ≠ n → standbyNumber u = some m)
          ∧ (∀ k, s.seq.standby = some k → standbyNumber s = some n → u.seq.standby = nextEligible u (k - 1))
          ∧ (s.seq.standby = none → u.seq.standby = none)
          ∧ (∀ v w, s.cmc.slot = some (.preflight v w) →
              u.cmc.slot = none ∧ u.cst.report = { s.cst.report with status := .aborted }
                ∧ u.evr = (raiseEvent .opDone 0 [5, 2, 0] s).evr)
          ∧ ((∀ v w, s.cmc.slot ≠ some (.preflight v w)) →
              u.cmc.slot = s.cmc.slot ∧ u.cst.report = s.cst.report ∧ u.evr = s.evr)
          ∧ u.cst.snapshots = s.cst.snapshots ∧ u.mix = s.mix ∧ u.fbg = s.fbg ∧ u.rpu = s.rpu ∧ u.hsu = s.hsu
          ∧ u.tmu = s.tmu ∧ u.cmc.flash = s.cmc.flash ∧ u.cmc.directory = s.cmc.directory)

/-- Preflight-clean becomes set only where a preflight completes with no faults: at a millisecond boundary that finds a
preflight in the slot, its walk past the last cue; with no item waiting on the link, the slot is then free and the report
COMPLETE with a fault total of 0 (R38, R42). -/
def Obligations.OnlyAPreflightSetsClean : Prop :=
  ∀ (i : Instr) (s t : State), exec i s = .next t → s.cst.clean = false → t.cst.clean = true →
    (∃ inp o k, i = .millisecondBoundary inp o k)
      ∧ (∃ v w, s.cmc.slot = some (.preflight v w) ∧ cueAt s w.cue = none)
      ∧ (s.clink.queue = [] → t.cmc.slot = none ∧ t.cst.report.status = .complete ∧ t.cst.report.total = 0)

/-- A preflight, SEQ being quiet: each boundary whose due events are left to their rows takes the next action of the walk and
records its faults, or passes a cue without actions, or begins to read a clip that is to be verified, or, past the last cue,
makes the final check and completes with OP_DONE; while a clip is read the walk waits. A block of that clip carries its CRC
on, the last one brings its result and the check of the action; a read that fails ends the preflight FAILED (R40, R41, R42).
That a row with nothing due changes nothing is the model's choice (log entry 8). -/
def Obligations.PreflightWalksTheList : Prop :=
  ∀ (s : State) (verify : Bool) (w : Walk), s.cmc.slot = some (.preflight verify w) → QuietSeq s →
    sparseRising none s.rpu.zones = true → s.cst.report.total ≤ 65535 → s.cst.report.records.length ≤ 8 →
    (verify = false → w.verified = []) →
    let r := s.cst.report
    let stands (u : State) : Prop :=
      u.cst.cues = s.cst.cues ∧ u.cst.snapshots = s.cst.snapshots ∧ u.cmc.directory = s.cmc.directory
        ∧ u.cmc.flash = s.cmc.flash ∧ u.seq.standby = s.seq.standby ∧ u.mix.masters = s.mix.masters
    let passed (c : Cue) (found : List FaultKind) (x : Walk) (u : State) : Prop :=
      u.cmc.slot = some (.preflight verify (x.past c.actions.length)) ∧ u.cst.clean = s.cst.clean
        ∧ u.cst.report = { r.withFaults c.number w.action found with
            walked := if w.action < c.actions.length then r.walked else min 65535 (r.walked + 1) }
    let failed (clip : Nat) (u : State) : Prop :=
      u.cmc.slot = none ∧ u.cst.clean = false ∧ u.cst.report = { r with status := .failed }
        ∧ Recorded .opDone 0 ([5, 1, 0] ++ bytesOf 4 clip) s u
    (∀ (i : BoundaryInputs) (o : BoundaryOrder), ∃ t, exec (.millisecondBoundary i o .split) s = .next t ∧ stands t
      ∧ (w.reading ≠ none → t.cmc.slot = s.cmc.slot ∧ t.cst = s.cst)
      ∧ (w.reading = none → cueAt s w.cue = none →
        let last := (s.cst.cues.filter fun c => !c.cut).getLast?
        let found : Report := match last with
          | none => r
          | some c => if c.follow = .none then r else r.withFaults c.number 0 [.followAtEnd]
        t.cmc.slot = none ∧ t.cst.report = { found with status := .complete }
          ∧ (t.cst.clean = true ↔ found.total = 0)
          ∧ Recorded .opDone 0 ([5, 0, 0] ++ bytesOf 4 found.total) s t)
      ∧ (∀ c, w.reading = none → cueAt s w.cue = some c →
        (c.actions[w.action - 1]? = none →
          t.cst = { s.cst with report := { r with walked := min 65535 (r.walked + 1) } }
            ∧ t.cmc.slot = some (.preflight verify { w with cue := w.cue + 1, action := 1 }))
        ∧ ∀ a, c.actions[w.action - 1]? = some a →
          ((verify = false ∨ ∀ clip target, clipNamed a.work = some (clip, target) →
              clipEntry s clip = none ∨ sparseFind w.verified clip ≠ none) →
            passed c (faultsOf s w.verified a.work) w t)
          ∧ ∀ clip target e, verify = true → clipNamed a.work = some (clip, target) → clipEntry s clip = some e →
              sparseFind w.verified clip = none →
              t.cst = s.cst ∧ t.cmc.slot = some (.preflight verify { w with reading := some (clip, e, 0, 0xFFFF#16) })))
    ∧ ∀ (x : Transfer) (clip : Nat) (e : DirEntry) (block page : Nat) (crc : BitVec 16) (c : Cue) (a : Action),
        s.cmc.transfer = some x → x.client = .verify → x.wanted = true → x.extent = .blockRead page →
        0 < s.cmc.capacity → w.reading = some (clip, e, block, crc) → cueAt s w.cue = some c →
        c.actions[w.action - 1]? = some a → verify = true →
        let data := (List.range 4096).map fun i => flashByte s.cmc.flash (1024 * page + i)
        let formed := crcFrom crc (data.take (e.length * e.channels * 4 - 4096 * block))
        (∃ u, exec (.transferComplete false .split) s = .next (settle u) ∧ stands u ∧ u.evr = s.evr
          ∧ if block + 1 < (e.length * e.channels * 4 + 4095) / 4096 then
              u.cst = s.cst ∧ u.cmc.slot = some (.preflight verify { w with reading := some (clip, e, block + 1, formed) })
            else
              let good := decide (formed = e.crc)
              let now := sparsePut w.verified clip (some good)
              ∀ target, clipNamed a.work = some (clip, target) →
                passed c (faultsOf s now a.work) { w with verified := now, reading := none } u)
        ∧ ∀ i, i = .transferComplete true .split ∨ (i = .transferTimeLimit .split ∧ 2 ≤ x.elapsed) →
          ∃ u, exec i s = .next (settle u) ∧ stands u ∧ failed clip u

/-! ### The matrix -/

/-- An untimed SET CROSSPOINT ends the slot on its crosspoint, sets the level, clamped, at once and leaves every other level and
slot; a source or a bus out of range is refused. SET BUS MASTER sets its bus's master, clamped, and nothing else; a bus out
of range is refused (R9, R3).
That an untimed set acts at once under hold too is the model's reading (log entry 15). -/
def Obligations.UntimedSetsActAtOnce : Prop :=
  ∀ (tag source bus : Nat) (x : Level) (s : State), LinkOpen s → sparseRising none s.mix.levels = true →
    sparseRising none s.mix.masters = true →
    let status : Status := if -1536 ≤ x ∧ x ≤ 192 then .ok else .okClamped
    (∀ d, (source = 0 ∨ 48 < source ∨ bus = 0 ∨ 25 < bus) →
        Decided (.setCrosspoint tag source bus x d) s 0x30 tag .outOfRange [] (heard s))
    ∧ (1 ≤ source → source ≤ 48 → 1 ≤ bus → bus ≤ 25 → FadeLaw s →
        ∃ u, Decided (.setCrosspoint tag source bus x 0) s 0x30 tag status [] u
          ∧ levelOf u source bus = max (-1536) (min 192 x)
          ∧ (∀ a b, 1 ≤ a → 1 ≤ b → b ≤ 25 → (a ≠ source ∨ b ≠ bus) → levelOf u a b = levelOf s a b)
          ∧ slotOn u source bus = none
          ∧ (∀ f ∈ s.mix.slots, (f.2.source ≠ source ∨ f.2.bus ≠ bus) → f ∈ u.mix.slots)
          ∧ u.mix.masters = s.mix.masters ∧ u.mix.codes = s.mix.codes ∧ u.ply = s.ply ∧ u.rpu = s.rpu
          ∧ u.hsu = s.hsu ∧ u.tmu = s.tmu ∧ u.cst = s.cst ∧ u.cmc = s.cmc ∧ u.evr = s.evr)
    ∧ ((bus = 0 ∨ 25 < bus) → Decided (.setBusMaster tag bus x) s 0x32 tag .outOfRange [] (heard s))
    ∧ (1 ≤ bus → bus ≤ 25 → ∃ m, Decided (.setBusMaster tag bus x) s 0x32 tag status []
          ((heard s).withMix { s.mix with masters := m })
        ∧ sparseRead 0 m bus = max (-1536) (min 192 x) ∧ ∀ b, b ≠ bus → sparseRead 0 m b = masterOf s b)

/-- A fade request that needs a slot, on a crosspoint without one, takes the lowest-numbered free slot, whoever asks for it: the
slot is linked to the crosspoint with start, target, duration and elapsed 0, and the level is the floor-substituted start
at once; every other level and slot stands. A timed SET CROSSPOINT is such a request with owner NONE (R7). -/
def Obligations.FadeTakesTheLowestFreeSlot : Prop :=
  ∀ (tag number source bus d k : Nat) (x : Level) (owner : FadeOwner) (s : State), FadeLaw s →
    sparseRising none s.mix.levels = true →
    1 ≤ source → source ≤ 48 → 1 ≤ bus → bus ≤ 25 → 1 ≤ d → slotOn s source bus = none →
    levelOf s source bus ≠ max (-1536) (min 192 x) →
    1 ≤ k → k ≤ 128 → sparseFind s.mix.slots k = none → (∀ j, 1 ≤ j → j < k → sparseFind s.mix.slots j ≠ none) →
    let filled (by_ : FadeOwner) (u : State) : Prop :=
      sparseFind u.mix.slots k
          = some { source := source, bus := bus, start := levelOf s source bus, target := max (-1536) (min 192 x)
                   duration := min 600000 d, elapsed := 0, owner := by_ }
      ∧ (∀ j, j ≠ k → sparseFind u.mix.slots j = sparseFind s.mix.slots j)
      ∧ levelOf u source bus = (if levelOf s source bus = -1536 then -960 else levelOf s source bus)
      ∧ (∀ a b, 1 ≤ a → 1 ≤ b → b ≤ 25 → (a ≠ source ∨ b ≠ bus) → levelOf u a b = levelOf s a b)
      ∧ u.seq = s.seq ∧ u.ply = s.ply ∧ u.rpu = s.rpu ∧ u.hsu = s.hsu ∧ u.tmu = s.tmu ∧ u.cst = s.cst ∧ u.cmc = s.cmc
      ∧ u.evr = s.evr
    filled owner (fadeRequest number source bus x d owner s)
    ∧ (LinkOpen s → ∃ u, Decided (.setCrosspoint tag source bus x d) s 0x30 tag
        (if (-1536 ≤ x ∧ x ≤ 192) ∧ d ≤ 600000 then .ok else .okClamped) [] u ∧ filled .none u)

/-- A fade slot whose elapsed time has reached its duration ends: the crosspoint stands at the target, the slot is free, a
cue's action that owned it is complete; a slot not at its end is left alone. A timed request on a crosspoint that fades takes
its slot over, from the level as it stands, and the old fade's action is complete. With 128 slots occupied it takes the one
with the least time left, the lowest number among equals, whose crosspoint goes to its target; FADE_STEAL tells (R6, R8, R12).
That a row with nothing due changes nothing is the model's choice (log entry 8). -/
def Obligations.FadesEndAndAreTakenOverAndStolen : Prop :=
  ∀ (s : State), FadeLaw s → sparseRising none s.mix.levels = true →
    let told (owner : FadeOwner) (u : State) : Prop :=
      (owner = .none → u.seq = s.seq)
        ∧ ∀ o e, owner = .cue o → sparseFind s.seq.entries o.slot = some e →
            o.index ≠ 0 → e.states[o.index - 1]? = some .outstanding →
            sparseFind u.seq.entries o.slot = some { e with states := e.states.set (o.index - 1) .complete }
    let elsewhere (u : State) : Prop :=
      u.ply = s.ply ∧ u.rpu = s.rpu ∧ u.hsu = s.hsu ∧ u.tmu = s.tmu ∧ u.cst = s.cst ∧ u.cmc = s.cmc
    (∀ (k : Nat) (f : FadeSlot), sparseFind s.mix.slots k = some f → 1 ≤ f.source → 1 ≤ f.bus → f.bus ≤ 25 →
      (f.elapsed < f.duration → exec (.fadeEnd k) s = .next (settle s))
      ∧ (f.elapsed = f.duration → ∃ u, exec (.fadeEnd k) s = .next (settle u)
        ∧ levelOf u f.source f.bus = f.target ∧ sparseFind u.mix.slots k = none
        ∧ (∀ j, j ≠ k → sparseFind u.mix.slots j = sparseFind s.mix.slots j)
        ∧ (∀ a b, 1 ≤ a → 1 ≤ b → b ≤ 25 → (a ≠ f.source ∨ b ≠ f.bus) → levelOf u a b = levelOf s a b)
        ∧ told f.owner u ∧ elsewhere u ∧ u.evr = s.evr))
    ∧ ∀ (tag number source bus d : Nat) (x : Level) (owner : FadeOwner),
        1 ≤ source → source ≤ 48 → 1 ≤ bus → bus ≤ 25 → 1 ≤ d → levelOf s source bus ≠ max (-1536) (min 192 x) →
        (∀ f ∈ s.mix.slots, 1 ≤ f.2.source ∧ 1 ≤ f.2.bus ∧ f.2.bus ≤ 25) →
        let new (who : FadeOwner) : FadeSlot :=
          { source := source, bus := bus, start := levelOf s source bus, target := max (-1536) (min 192 x)
            duration := min 600000 d, elapsed := 0, owner := who }
        let filled (k : Nat) (who : FadeOwner) (u : State) : Prop :=
          sparseFind u.mix.slots k = some (new who)
            ∧ (∀ j, j ≠ k → sparseFind u.mix.slots j = sparseFind s.mix.slots j)
            ∧ levelOf u source bus = (if levelOf s source bus = -1536 then -960 else levelOf s source bus)
            ∧ elsewhere u
        let takenOver (k : Nat) (f : FadeSlot) (who : FadeOwner) (u : State) : Prop :=
          filled k who u ∧ told f.owner u ∧ u.evr = s.evr
            ∧ ∀ a b, 1 ≤ a → 1 ≤ b → b ≤ 25 → (a ≠ source ∨ b ≠ bus) → levelOf u a b = levelOf s a b
        let stolen (k : Nat) (f : FadeSlot) (who : FadeOwner) (u : State) : Prop :=
          filled k who u ∧ told f.owner u ∧ levelOf u f.source f.bus = f.target
            ∧ u.evr = (raiseEvent .fadeSteal 0 (bytesOf 1 k ++ bytesOf 1 f.source ++ bytesOf 1 f.bus) s).evr
            ∧ ∀ a b, 1 ≤ a → 1 ≤ b → b ≤ 25 → (a ≠ source ∨ b ≠ bus) → (a ≠ f.source ∨ b ≠ f.bus) →
                levelOf u a b = levelOf s a b
        let asked (P : FadeOwner → State → Prop) : Prop :=
          P owner (fadeRequest number source bus x d owner s)
            ∧ (LinkOpen s → ∃ u, Decided (.setCrosspoint tag source bus x d) s 0x30 tag
                (if (-1536 ≤ x ∧ x ≤ 192) ∧ d ≤ 600000 then .ok else .okClamped) [] u ∧ P .none u)
        (∀ k f, slotOn s source bus = some (k, f) → asked (takenOver k f))
        ∧ (slotOn s source bus = none → (∀ j, 1 ≤ j → j ≤ 128 → sparseFind s.mix.slots j ≠ none) →
          ∀ k v, sparseFind s.mix.slots k = some v →
            (∀ j g, sparseFind s.mix.slots j = some g →
              v.duration - v.elapsed < g.duration - g.elapsed
                ∨ (v.duration - v.elapsed = g.duration - g.elapsed ∧ k ≤ j)) →
            asked (stolen k v))

/-- The fade-slot table keeps its law: slots 1 to 128, durations and elapsed times in range, one slot a crosspoint. With it,
every level, master, fade start and fade target stays in the range of levels, every stored and running cue and every snapshot
stays as its write left it, and a fading crosspoint stands between its fade's floored start and target, on the target at the
end (R1, R4, R28, R29, R34). -/
def Obligations.EveryStepKeepsTheFadeLaws : Prop :=
  ∀ s t : State, FadeLaw s → step s = .next t →
    FadeLaw t ∧ (LevelLaw s → LevelLaw t) ∧ (StoredLaw s → StoredLaw t)
      ∧ (StoredLaw s → FadingLaw s → FadingLaw t)

/-! ### The foldback governors -/

/-- SET GOVERNOR in SETUP stores every setting in its range, copies enable and target into the working pair, brings the trim
into its limits, and leaves the governor OFF, or HUNTING, FROZEN under the freeze condition, with counts 0 and discard set.
RESTART GOVERNOR: trim 0, RE-HUNT and counts clear, OFF or HUNTING (FROZEN under the freeze condition) with discard set; the
working target, the settings, last settle, ceiling count and last m are kept. No other governor is touched (R112, R124,
R125).
That a disabled governor loses its discard mark is the model's reading (log entry 17), and the coding of tolerance and
step is too (log entry 29). -/
def Obligations.GovernorsAreSetAndRestarted : Prop :=
  (∀ (tag n : Nat) (b : GovernorBody) (s : State), LinkOpen s → s.seq.showState = .setup → saving s = false →
    1 ≤ n → n ≤ 12 → b.enable ≤ 1 → sparseRising none s.fbg.governors = true →
    let lo := max (-480) (min 0 b.trimMin)
    let hi := max 0 (min 192 b.trimMax)
    let g := governorOf s n
    ∃ u, Decided (.setGovernor tag n b) s 0x38 tag
        (if (-1536 ≤ b.target ∧ b.target ≤ 0) ∧ (4 ≤ b.tolerance ∧ b.tolerance ≤ 96) ∧ (4 ≤ b.stepMax ∧ b.stepMax ≤ 96)
            ∧ (-480 ≤ b.trimMin ∧ b.trimMin ≤ 0) ∧ (0 ≤ b.trimMax ∧ b.trimMax ≤ 192)
            ∧ (-480 ≤ b.ceiling ∧ b.ceiling ≤ 0) then .ok else .okClamped) [] u
      ∧ governorOf u n = { g with
          settings := { enable := decide (b.enable = 1), target := max (-1536) (min 0 b.target)
                        tolerance := max 4 (min 96 b.tolerance), stepMax := max 4 (min 96 b.stepMax)
                        trimMin := lo, trimMax := hi, ceiling := max (-480) (min 0 b.ceiling) }
          enable := decide (b.enable = 1), target := max (-1536) (min 0 b.target)
          trim := max lo (min hi g.trim)
          state := if b.enable = 0 then .off else if freezeCondition s n then .frozen else .hunting
          gatedFrom := none, inBand := 0, settle := 0, discard := decide (b.enable = 1) }
      ∧ (∀ m, m ≠ n → governorOf u m = governorOf s m)
      ∧ u = (heard s).withFbg u.fbg ∧ u.fbg.windowMs = s.fbg.windowMs ∧ u.fbg.sums = s.fbg.sums)
  ∧ (∀ (tag n : Nat) (s : State), LinkReady s → sparseRising none s.fbg.governors = true →
    (loading s = true → Decided (.restartGovernor tag n) s 0x3A tag .busy [] (heard s))
    ∧ (loading s = false → (n = 0 ∨ 12 < n) → Decided (.restartGovernor tag n) s 0x3A tag .outOfRange [] (heard s))
    ∧ (loading s = false → 1 ≤ n → n ≤ 12 →
        ∃ u, Decided (.restartGovernor tag n) s 0x3A tag .ok [] u
          ∧ governorOf u n = { governorOf s n with
              trim := 0, rehunt := false, inBand := 0, settle := 0, gatedFrom := none
              state := if (governorOf s n).enable = false then .off
                else if freezeCondition s n then .frozen else .hunting
              discard := (governorOf s n).enable }
          ∧ (∀ m, m ≠ n → governorOf u m = governorOf s m)
          ∧ u = (heard s).withFbg u.fbg ∧ u.fbg.windowMs = s.fbg.windowMs ∧ u.fbg.sums = s.fbg.sums))

/-- Each governor's trim lies in its limits, and no governor hunts or has converged while hold is effective or a fade slot
carries a crosspoint of its bus (R120). -/
def Obligations.EveryStepKeepsTheGovernorLaws : Prop :=
  ∀ s t : State, TrimLaw s → FreezeLaw s → step s = .next t → TrimLaw t ∧ FreezeLaw t


/-! ### The players -/

/-- A pending play whose threshold is buffered starts: PLAYING, or PAUSED while hold is effective, at frame 0 with its loops,
as many fetch loops, the blocks buffered, its owner and envelope, the wait recorded; where the loop end is buffered and the play
turns there, the fetch goes on from the loop start. A play past its clip's last frame ends, and so does a release that has
come to OFF: its owner is told, and the player holds its clip for the player hold time, or becomes IDLE. A retrigger tail that
has run out loads the waiting play's clip, the owner being told when that is absent, or after a stop holds the clip it was to
play; a player hold timer that has run out makes the player IDLE, and stands under hold. The other players are untouched (R79,
R80, R83 to R85).
That a row with nothing due changes nothing is the model's choice (log entry 8), and so are the fetch of a play that turns at a
buffered loop end (log entry 12), the clip copy held after a play (log entry 41), the time that an envelope
at its target at once keeps (log entry 39) and the envelope after a retrigger tail (log entry 42). -/
def Obligations.PlayersStartEndAndExpire : Prop :=
  ∀ (n : Nat) (s : State), sparseRising none s.ply.players = true →
    let p := playerOf s n
    let others (u : State) : Prop :=
      (∀ m, m ≠ n → playerOf u m = playerOf s m) ∧ u.ply.holdTime = s.ply.holdTime ∧ (playerOf u n).underruns = p.underruns
        ∧ u.mix = s.mix ∧ u.fbg = s.fbg ∧ u.rpu = s.rpu ∧ u.hsu = s.hsu ∧ u.tmu = s.tmu ∧ u.cst = s.cst
        ∧ u.clink = s.clink ∧ u.cmc.flash = s.cmc.flash ∧ u.cmc.slot = s.cmc.slot
    let told (owner : Option Owner) (u : State) : Prop :=
      (owner = none → u.seq = s.seq)
        ∧ ∀ o e, owner = some o → sparseFind s.seq.entries o.slot = some e →
            o.index ≠ 0 → e.states[o.index - 1]? = some .outstanding →
            sparseFind u.seq.entries o.slot = some { e with states := e.states.set (o.index - 1) .complete }
    let held (clip : Nat) (e : DirEntry) (u : State) : Prop :=
      (playerOf u n).owner = none ∧ (playerOf u n).position = 0 ∧ (playerOf u n).buffer = []
        ∧ (playerOf u n).pending = none ∧ (playerOf u n).env = ⟨-1536, -1536, -1536, 0, 0⟩
        ∧ (s.ply.holdTime = 0 → (playerOf u n).state = .idle ∧ (playerOf u n).clip = none)
        ∧ (s.ply.holdTime ≠ 0 → (playerOf u n).state = .readyHold ∧ (playerOf u n).clip = some clip
            ∧ (playerOf u n).copy = some e ∧ (playerOf u n).holdTimer = some s.ply.holdTime
            ∧ (playerOf u n).fetchNext = some 0 ∧ (playerOf u n).fetchLoops = 1)
    (∀ play e, p.state = .loading → p.pending = some play → p.copy = some e → e.threshold ≤ p.buffer.length →
      ∃ u, exec (.playStart n) s = .next (settle u) ∧ others u ∧ u.evr = s.evr ∧ u.seq = s.seq
        ∧ (playerOf u n).state = (if s.hsu.holdEffective then .pausedPlaying else .playing)
        ∧ (playerOf u n).position = 0 ∧ (playerOf u n).loops = play.loops ∧ (playerOf u n).owner = play.owner
        ∧ (playerOf u n).pending = none ∧ (playerOf u n).holdTimer = none ∧ (playerOf u n).clip = p.clip
        ∧ (playerOf u n).lateStart = min 65535 play.waited
        ∧ (playerOf u n).buffer = p.buffer ∧ (playerOf u n).fetchLoops = play.loops
        ∧ (playerOf u n).fetchNext = (if play.loops ≠ 1 ∧ (∃ b ∈ p.buffer, b.number = (e.loopEnd - 1) / e.perBlock) then
            some (e.loopStart / e.perBlock) else p.fetchNext)
        ∧ (playerOf u n).env
            = ⟨if play.attack = 0 ∨ play.level = -1536 then play.level else -960, -1536, play.level, 0, play.attack⟩)
    ∧ (∀ clip e, (p.state = .playing ∧ e.length ≤ p.position)
          ∨ (p.state = .releasingStop ∧ (e.length ≤ p.position ∨ p.env.level = -1536)) →
        p.clip = some clip → p.copy = some e →
      ∃ u, exec (.playEnd n) s = .next (settle u) ∧ others u ∧ u.evr = s.evr ∧ told p.owner u ∧ held clip e u)
    ∧ (∀ e, (p.state = .playing ∨ p.state = .releasingStop) → p.copy = some e → p.position < e.length →
        (p.state = .releasingStop → p.env.level ≠ -1536) → exec (.playEnd n) s = .next (settle s))
    ∧ (∀ play, p.state = .releasingRetrigger → p.tail = [] → p.pending = some play →
      ∃ u, exec (.retriggerTailEnd n) s = .next (settle u) ∧ others u
        ∧ (∀ e, clipEntry s play.clip = some e → u.evr = s.evr ∧ u.seq = s.seq ∧ (playerOf u n).state = .loading
            ∧ (playerOf u n).clip = some play.clip ∧ (playerOf u n).copy = some e ∧ (playerOf u n).fetchNext = some 0
            ∧ (playerOf u n).pending = some play ∧ (playerOf u n).buffer = []
            ∧ (playerOf u n).env = ⟨-1536, -1536, -1536, 0, 0⟩)
        ∧ (clipEntry s play.clip = none → (playerOf u n).state = .idle ∧ (playerOf u n).clip = none
            ∧ told play.owner u
            ∧ u.evr = (raiseEvent .memoryFault n (bytesOf 1 0 ++ bytesOf 2 play.clip ++ bytesOf 4 0) s).evr))
    ∧ (∀ clip, p.state = .releasingRetrigger → p.tail = [] → p.pending = none → p.clip = some clip →
      ∃ u, exec (.retriggerTailEnd n) s = .next (settle u) ∧ others u ∧ u.evr = s.evr ∧ u.seq = s.seq
        ∧ (∀ e, clipEntry s clip = some e → held clip e u)
        ∧ (clipEntry s clip = none → (playerOf u n).state = .idle ∧ (playerOf u n).clip = none))
    ∧ (p.holdTimer = some 0 →
      ∃ u, exec (.holdTimerExpiry n) s = .next (settle u)
        ∧ if s.hsu.holdEffective then u = s
          else others u ∧ u.evr = s.evr ∧ u.seq = s.seq ∧ (playerOf u n).state = .idle ∧ (playerOf u n).clip = none
            ∧ (playerOf u n).buffer = [])

/-- PLAY is checked in order and acts by the player's state: an IDLE player loads the clip with the play waiting; a READY one
with the clip starts at once, or waits for its data; with another clip it loads; a LOADING one and one in a retrigger tail
take the play in place of the one that waited; a sounding or paused one retriggers. The action that owned the play so ended is
complete. STOP PLAYER puts a sounding or paused player into release, ends its play at once for a release of 0 or from OFF,
takes a waiting play out of a retrigger tail, and does not touch one that is IDLE, LOADING or READY. SET PLAYER replaces the
player hold time; it is LOCKED in SHOW and BUSY during a save (R77, R78, R80, R84, R91).
The fields that hold a waiting play in a retrigger tail are the model's choice (log entry 42). -/
def Obligations.PlayAndStopActByTheState : Prop :=
  ∀ (tag n clip loops attack : Nat) (x : Level) (s : State), LinkOpen s → sparseRising none s.ply.players = true →
    let p := playerOf s n
    let play : Play := ⟨clip, loops, max (-1536) (min 192 x), min 600000 attack, none, 0⟩
    let others (u : State) : Prop :=
      (∀ m, m ≠ n → playerOf u m = playerOf s m) ∧ u.ply.holdTime = s.ply.holdTime ∧ u.evr = s.evr ∧ u.mix = s.mix
        ∧ u.fbg = s.fbg ∧ u.rpu = s.rpu ∧ u.hsu = s.hsu ∧ u.tmu = s.tmu ∧ u.cst = s.cst ∧ u.cmc.flash = s.cmc.flash
        ∧ u.cmc.slot = s.cmc.slot
    let played (u : State) : Prop :=
      Decided (.play tag n clip loops x attack) s 0x40 tag
          (if (-1536 ≤ x ∧ x ≤ 192) ∧ attack ≤ 600000 then .ok else .okClamped) [] u
        ∧ others u ∧ (playerOf u n).holdTimer = none ∧ (playerOf u n).reservation = none
    let told (owner : Option Owner) (u : State) : Prop :=
      (owner = none → u.seq = s.seq)
        ∧ ∀ o e, owner = some o → sparseFind s.seq.entries o.slot = some e →
            o.index ≠ 0 → e.states[o.index - 1]? = some .outstanding →
            sparseFind u.seq.entries o.slot = some { e with states := e.states.set (o.index - 1) .complete }
    let sounding : Prop :=
      p.state = .playing ∨ p.state = .releasingStop ∨ p.state = .pausedPlaying ∨ p.state = .pausedReleasing
    let ready : Prop := p.state = .readyPreload ∨ p.state = .readyHold
    let fresh (e : DirEntry) (u : State) : Prop :=
      (playerOf u n).state = .loading ∧ (playerOf u n).clip = some clip ∧ (playerOf u n).copy = some e
        ∧ (playerOf u n).buffer = [] ∧ (playerOf u n).fetchNext = some 0 ∧ (playerOf u n).pending = some play
    ((n = 0 ∨ 8 < n ∨ 255 < clip ∨ 255 < loops) →
        Decided (.play tag n clip loops x attack) s 0x40 tag .outOfRange [] (heard s))
    ∧ (1 ≤ n → n ≤ 8 → loops ≤ 255 →
      (clip ≤ 255 → clipEntry s clip = none →
        Decided (.play tag n clip loops x attack) s 0x40 tag .notFound [] (heard s))
      ∧ (∀ e, clip ≤ 255 → clipEntry s clip = some e →
        (p.state = .idle ∨ (ready ∧ p.clip ≠ some clip) → ∃ u, played u ∧ u.seq = s.seq ∧ fresh e u)
        ∧ (∀ c, ready → p.clip = some clip → p.copy = some c → c.threshold ≤ p.buffer.length →
          ∃ u, played u ∧ u.seq = s.seq
            ∧ (playerOf u n).state = (if s.hsu.holdEffective then .pausedPlaying else .playing)
            ∧ (playerOf u n).position = 0 ∧ (playerOf u n).loops = loops ∧ (playerOf u n).lateStart = 0
            ∧ (playerOf u n).pending = none ∧ (playerOf u n).buffer = p.buffer ∧ (playerOf u n).fetchLoops = loops)
        ∧ (∀ c, ready → p.clip = some clip → p.copy = some c → p.buffer.length < c.threshold →
          ∃ u, played u ∧ u.seq = s.seq ∧ (playerOf u n).state = .loading ∧ (playerOf u n).clip = some clip
            ∧ (playerOf u n).buffer = p.buffer ∧ (playerOf u n).fetchNext = p.fetchNext
            ∧ (playerOf u n).pending = some play)
        ∧ (p.state = .loading → ∃ u, played u ∧ told (p.pending.bind fun q => q.owner) u
            ∧ (p.clip = some clip → playerOf u n = { p with pending := some play, holdTimer := none, reservation := none })
            ∧ (p.clip ≠ some clip → fresh e u))
        ∧ (p.state = .releasingRetrigger → ∃ u, played u ∧ told (p.pending.bind fun q => q.owner) u
            ∧ playerOf u n = { p with
                pending := some play, clip := some clip, holdTimer := none, reservation := none })
        ∧ (sounding → ∃ u, played u ∧ told p.owner u
            ∧ (playerOf u n).state = .releasingRetrigger ∧ (playerOf u n).clip = some clip
            ∧ (playerOf u n).pending = some play ∧ (playerOf u n).position = 0 ∧ (playerOf u n).owner = none
            ∧ (playerOf u n).env = p.env ∧ (playerOf u n).buffer = [] ∧ (playerOf u n).tail.length = 480)))
    ∧ (1 ≤ n → n ≤ 8 → ∃ u, Decided (.stopPlayer tag n attack) s 0x41 tag
          (if attack ≤ 600000 then .ok else .okClamped) [] u ∧ others u
        ∧ (p.state = .idle ∨ p.state = .loading ∨ ready → u = heard s)
        ∧ (sounding → 0 < attack → p.env.level ≠ -1536 → u.seq = s.seq
            ∧ playerOf u n = { p with
                state := if p.state = .playing ∨ p.state = .releasingStop then .releasingStop else .pausedReleasing
                env := ⟨p.env.level, p.env.level, -1536, 0, min 600000 attack⟩ })
        ∧ (∀ c e, sounding → attack = 0 ∨ p.env.level = -1536 → p.clip = some c → p.copy = some e →
            told p.owner u ∧ (playerOf u n).owner = none ∧ (playerOf u n).buffer = []
              ∧ if s.ply.holdTime = 0 then (playerOf u n).state = .idle ∧ (playerOf u n).clip = none
                else (playerOf u n).state = .readyHold ∧ (playerOf u n).clip = some c
                  ∧ (playerOf u n).holdTimer = some s.ply.holdTime)
        ∧ (p.state = .releasingRetrigger → told (p.pending.bind fun q => q.owner) u
            ∧ playerOf u n = { p with pending := none }))
    ∧ ((n = 0 ∨ 8 < n) → Decided (.stopPlayer tag n attack) s 0x41 tag .outOfRange [] (heard s))
    ∧ (s.seq.showState = .inShow → Decided (.setPlayer tag attack) s 0x43 tag .locked [] (heard s))
    ∧ (s.seq.showState = .setup → saving s = true → Decided (.setPlayer tag attack) s 0x43 tag .busy [] (heard s))
    ∧ (s.seq.showState = .setup → saving s = false →
        Decided (.setPlayer tag attack) s 0x43 tag (if attack ≤ 60000 then .ok else .okClamped) []
          ((heard s).withPly { s.ply with holdTime := min 60000 attack }))

/-- A boundary, SEQ being quiet and its due events left to their rows: where hold is effective for the players, a sounding one is
paused where it stands, with a pause tail of 480 frames, and no hold timer runs; elsewhere a paused one sounds again with a
resume ramp, an envelope moves on by the fade law and a hold timer counts down. In a sample period a sounding player moves on
by one frame, back to the loop start while passes are left; a frame that is not buffered begins an underrun, counted and
raised. A block that arrives joins the buffer, a turn owed being taken first; a failed one, or one that reaches its time
limit, is placed as silence, counted and raised; one that is no longer wanted changes nothing (R74, R76, R81, R82, R85 to R88).
That a pause tail is fixed at its boundary, that the error of a read no longer wanted is dropped, and that an envelope from OFF
to OFF stays OFF are the model's choices (log entries 32, 34 and 39), and a turn owed is its reading (log entry 12). -/
def Obligations.PlayersPauseResumeAndUnderrun : Prop :=
  ∀ (n : Nat) (s : State), 1 ≤ n → n ≤ 8 → QuietSeq s → sparseRising none s.ply.players = true →
    let p := playerOf s n
    (∀ (i : BoundaryInputs) (o : BoundaryOrder), ∃ t, exec (.millisecondBoundary i o .split) s = .next t ∧
      let held := if o.plyOld then s.hsu.holdEffective else t.hsu.holdEffective
      let q := playerOf t n
      q.position = p.position ∧ q.loops = p.loops ∧ q.buffer = p.buffer ∧ q.clip = p.clip ∧ q.owner = p.owner
        ∧ q.underruns = p.underruns
        ∧ (held = true → q.env = p.env ∧ q.holdTimer = p.holdTimer
          ∧ (p.state = .playing ∨ p.state = .releasingStop → q.tail = p.upcoming 480 ∧ q.tail.length = 480 ∧ q.ramp = none
              ∧ q.state = if p.state = .playing then .pausedPlaying else .pausedReleasing)
          ∧ (p.state ≠ .playing → p.state ≠ .releasingStop → q.state = p.state ∧ q.tail = p.tail))
        ∧ (held = false → q.holdTimer = p.holdTimer.map (· - 1)
          ∧ (p.state = .pausedPlaying ∨ p.state = .pausedReleasing → q.tail = [] ∧ q.ramp = some 0
              ∧ q.state = if p.state = .pausedPlaying then .playing else .releasingStop)
          ∧ (p.state ≠ .pausedPlaying → p.state ≠ .pausedReleasing → q.state = p.state ∧ q.tail = p.tail)
          ∧ (p.state = .playing ∨ p.state = .releasingStop → q.env = if p.env.elapsed < p.env.time then
                { p.env with
                  elapsed := p.env.elapsed + 1
                  level := if p.env.start = p.env.target then p.env.target
                    else fadeLevel p.env.start p.env.target p.env.time (p.env.elapsed + 1) }
              else p.env)))
    ∧ (∀ xs e, p.state = .playing ∨ p.state = .releasingStop → p.copy = some e → p.position < e.length →
      ∃ t, exec (.samplePeriod xs .split) s = .next t ∧
        let q := playerOf t n
        let here := p.position / e.perBlock
        (if p.position + 1 = e.loopEnd ∧ p.loops ≠ 1 then
            q.position = e.loopStart ∧ q.loops = (if p.loops = 0 then 0 else p.loops - 1)
          else q.position = p.position + 1 ∧ q.loops = p.loops)
          ∧ q.state = p.state ∧ q.env = p.env ∧ q.owner = p.owner ∧ q.clip = p.clip
          ∧ ((∀ b, p.buffer.head? = some b → b.number ≠ here) → p.episode = false →
            q.underruns = min 65535 (p.underruns + 1) ∧ q.episode = true ∧ q.buffer = [] ∧ q.fetchNext = some here
              ∧ Recorded .playerUnderrun n (bytesOf 2 (p.clip.getD 0) ++ bytesOf 4 p.position) s t)
          ∧ ((p.buffer.head?.map fun b => b.number) = some here → q.underruns = p.underruns ∧ q.episode = p.episode
              ∧ q.fetchNext = p.fetchNext))
    ∧ ∀ (x : Transfer) (e : DirEntry) (page : Nat), s.cmc.transfer = some x → x.client = .player n →
        x.extent = .blockRead page → 0 < s.cmc.capacity → p.copy = some e →
        let data := (List.range 4096).map fun i => flashByte s.cmc.flash (1024 * page + i)
        let kept := if p.turnOwed then untilTurn e p.buffer else p.buffer
        let arrived (bytes : List Byte) (u : State) : Prop :=
          u.cmc.transfer = none ∧ u.cmc.flash = s.cmc.flash ∧ u.seq = s.seq ∧ (∀ m, m ≠ n → playerOf u m = playerOf s m)
            ∧ (playerOf u n).position = p.position ∧ (playerOf u n).pending = p.pending
            ∧ (p.episode = false ∨ x.block = p.position / e.perBlock →
              (playerOf u n).buffer = kept ++ [⟨x.block, bytes⟩] ∧ (playerOf u n).episode = false
                ∧ (playerOf u n).state = if p.state = .loading ∧ e.threshold ≤ kept.length + 1 ∧ p.pending = none then
                    (if p.reservation = none then .readyHold else .readyPreload) else p.state)
            ∧ (p.episode = true → x.block ≠ p.position / e.perBlock →
              (playerOf u n).buffer = kept ∧ (playerOf u n).fetchNext = some (p.position / e.perBlock))
        (x.wanted = true → ∃ u, exec (.transferComplete false .split) s = .next (settle u) ∧ arrived data u
          ∧ (playerOf u n).underruns = p.underruns ∧ u.evr = s.evr)
        ∧ (∀ i, i = .transferComplete true .split ∨ (i = .transferTimeLimit .split ∧ 2 ≤ x.elapsed) →
          x.wanted = true → ∃ u, exec i s = .next (settle u) ∧ arrived [] u
          ∧ (playerOf u n).underruns = min 65535 (p.underruns + 1)
          ∧ u.evr = (raiseEvent .memoryFault n (bytesOf 1 1 ++ bytesOf 2 (p.clip.getD 0) ++ bytesOf 4 x.block) s).evr)
        ∧ ∀ failed, x.wanted = false → exec (.transferComplete failed .split) s
            = .next (settle (s.withCmc { s.cmc with transfer := none }))

/-! ### Paging -/

/-- PAGE with no page active and none waiting, its clip present and a zone selected: the page starts with the next page number,
the selected zones are ducked by the attack, and a CLIP page's attack timer runs while the call voice loads its clip. A CALL
page equal to no waiting one, no page of a lower class being active, waits behind every page of its own and the higher
classes and before the TIMED ones. CANCEL PAGE refuses the STOP page, takes a waiting page out of the queue, and ends the
active page (R133, R136, R138, R148).
The layout of the replies is the model's choice (log entry 10). -/
def Obligations.PagesStartWaitAndAreCancelled : Prop :=
  ∀ (tag clip : Nat) (target : Target) (e : DirEntry) (s : State), LinkOpen s → sparseRising none s.rpu.zones = true →
    targetInRange target = true → clip ≤ 255 → clipEntry s clip = some e →
    pageHeld s s.rpu.nextNumber = false →
    let zones := zonesSelected s (targetSpread target).1 (targetSpread target).2
    let number := s.rpu.nextNumber
    let page : Page :=
      { number := number, cls := .call, source := .clip clip, mask := (targetSpread target).1
        zones := (targetSpread target).2, origin := .link, heldByLine := false, heldByLink := false, replayed := false }
    let elsewhere (u : State) : Prop :=
      u.mix = s.mix ∧ u.fbg = s.fbg ∧ u.hsu = s.hsu ∧ u.tmu = s.tmu ∧ u.cst = s.cst ∧ u.seq = s.seq ∧ u.ply = s.ply
        ∧ u.evr = s.evr ∧ u.rpu.settings = s.rpu.settings ∧ u.cmc.flash = s.cmc.flash
    (zones = [] → Decided (.page tag ⟨2, 1, clip, target⟩) s 0x52 tag .outOfRange [] (heard s))
    ∧ (zones ≠ [] → s.rpu.active = none → s.rpu.queue = [] →
        ∃ u, Decided (.page tag ⟨2, 1, clip, target⟩) s 0x52 tag .ok [.u16 number, .u8 0] u ∧ elsewhere u
          ∧ u.rpu.queue = [] ∧ u.rpu.nextNumber = (if number = 65535 then 1 else number + 1)
          ∧ u.rpu.active = some
              ⟨page, zones, if s.rpu.settings.attack = 0 then none else some s.rpu.settings.attack⟩
          ∧ u.rpu.voice.state = .loading ∧ u.rpu.voice.page = number ∧ u.rpu.voice.clip = clip
          ∧ u.rpu.voice.copy = some e ∧ u.rpu.voice.position = 0 ∧ u.rpu.voice.fetchNext = some 0
          ∧ (∀ z, z ∉ zones → zoneOf u z = zoneOf s z)
          ∧ ∀ z ∈ zones, zoneOf u z = { zoneOf s z with
              inPage := true, paged := decide (s.rpu.settings.attack = 0)
              duck := (zoneOf s z).duck.start (zoneOf s z).depth s.rpu.settings.attack })
    ∧ (∀ a, zones ≠ [] → s.rpu.active = some a → a.page.cls ≠ .timed →
        s.rpu.queue.length < 8 →
        (∀ q ∈ s.rpu.queue, ¬(q.cls = .call ∧ q.source = .clip clip ∧ q.mask = page.mask ∧ q.zones = page.zones)) →
        ∃ u before behind, Decided (.page tag ⟨2, 1, clip, target⟩) s 0x52 tag .ok
            [.u16 number, .u8 1, .u32 (before.length + 1)] u
          ∧ elsewhere u ∧ s.rpu.queue = before ++ behind ∧ u.rpu.queue = before ++ page :: behind
          ∧ (∀ q ∈ before, q.cls ≠ .timed) ∧ (∀ q, behind.head? = some q → q.cls = .timed)
          ∧ u.rpu.active = s.rpu.active ∧ u.rpu.zones = s.rpu.zones ∧ u.rpu.voice = s.rpu.voice)
    ∧ ∀ (m : Nat) (a : ActivePage), 1 ≤ m → m ≤ 65535 → s.rpu.active = some a →
        (a.page.number = m → a.page.cls = .stop → Decided (.cancelPage tag m) s 0x53 tag .inUse [] (heard s))
        ∧ (pageHeld s m = false → Decided (.cancelPage tag m) s 0x53 tag .notFound [] (heard s))
        ∧ (a.page.number ≠ m → (∃ q ∈ s.rpu.queue, q.number = m) → (∀ q ∈ s.rpu.queue, q.cls ≠ .stop) →
            Decided (.cancelPage tag m) s 0x53 tag .ok []
              ((heard s).withRpu { s.rpu with queue := s.rpu.queue.filter fun q => q.number != m }))
        ∧ (a.page.number = m → a.page.cls ≠ .stop → s.rpu.queue = [] → a.zoneSet.Nodup →
            ∃ u, Decided (.cancelPage tag m) s 0x53 tag .ok [] u ∧ elsewhere u ∧ u.rpu.active = none ∧ u.rpu.queue = []
              ∧ u.rpu.voice.state = .idle
              ∧ (∀ z, z ∉ a.zoneSet → zoneOf u z = zoneOf s z)
              ∧ ∀ z ∈ a.zoneSet, zoneOf u z = { zoneOf s z with
                  inPage := false, paged := false
                  duck := if (zoneOf s z).enabled then (zoneOf s z).duck.start 0 s.rpu.settings.release
                    else ⟨0, none⟩ })

/-- A PAGE equal to a waiting one merges with it. With 8 pages waiting a page of a higher class displaces the last one, and any
other is FULL; PAGE_DROPPED tells. A TALK request unites with the TALK page that is active or waits: masks and zone sets
united, the holder added, zones newly selected ducked and paged at once. A TALK request preempts a page of a lower class: the
shared zones are taken over, the others released, and a CLIP page not yet replayed goes back to the front of its class,
marked; PAGE_PREEMPTED tells. When the active page is cancelled the head of the queue starts (R135 to R138, R140 to R142,
R148).
The layout of the replies is the model's choice (log entry 10). -/
def Obligations.PagesMergeUnitePreemptAndFill : Prop :=
  ∀ (tag clip : Nat) (target : Target) (e : DirEntry) (s : State), LinkOpen s → sparseRising none s.rpu.zones = true →
    targetInRange target = true → clip ≤ 255 → clipEntry s clip = some e → pageHeld s s.rpu.nextNumber = false →
    let zones := zonesSelected s (targetSpread target).1 (targetSpread target).2
    let number := s.rpu.nextNumber
    let page (cls : PageClass) (source : PageSource) : Page :=
      { number := number, cls := cls, source := source, mask := (targetSpread target).1, zones := (targetSpread target).2
        origin := .link, heldByLine := false, heldByLink := decide (cls = .talk), replayed := false }
    let call := page .call (.clip clip)
    let talk := page .talk .live
    let equal (q r : Page) : Prop := q.cls = r.cls ∧ q.source = r.source ∧ q.mask = r.mask ∧ q.zones = r.zones
    let united (q : Page) : Page :=
      { q with
        mask := q.mask ||| talk.mask
        zones := (List.range' 1 24).filter fun n => q.zones.contains n || talk.zones.contains n
        heldByLink := true }
    let elsewhere (u : State) : Prop :=
      u.mix = s.mix ∧ u.fbg = s.fbg ∧ u.hsu = s.hsu ∧ u.tmu = s.tmu ∧ u.cst = s.cst ∧ u.seq = s.seq ∧ u.ply = s.ply
        ∧ u.rpu.settings = s.rpu.settings ∧ u.cmc.flash = s.cmc.flash
    let joined (now : Bool) (z : Nat) : Zone := { zoneOf s z with
      inPage := true, paged := now, duck := (zoneOf s z).duck.start (zoneOf s z).depth s.rpu.settings.attack }
    let left (z : Nat) : Zone := { zoneOf s z with
      inPage := false, paged := false
      duck := if (zoneOf s z).enabled then (zoneOf s z).duck.start 0 s.rpu.settings.release else ⟨0, none⟩ }
    zones ≠ [] →
    (∀ before q behind, s.rpu.queue = before ++ q :: behind → equal q call → (∀ x ∈ before, ¬equal x call) →
      Decided (.page tag ⟨2, 1, clip, target⟩) s 0x52 tag .ok [.u16 q.number, .u8 2] (heard s))
    ∧ (∀ a front last, s.rpu.active = some a → a.page.cls ≠ .timed → s.rpu.queue = front ++ [last] →
        s.rpu.queue.length = 8 → (∀ q ∈ s.rpu.queue, ¬equal q call) →
        let dropped (p : Page) (n origin reason : Nat) : Evr := (raiseEvent .pageDropped origin
          (bytesOf 2 n ++ bytesOf 1 p.cls.number ++ bytesOf 1 p.source.number ++ bytesOf 2 p.source.clipOrZero
            ++ bytesOf 1 reason) s).evr
        (last.cls ≠ .timed → ∃ u, Decided (.page tag ⟨2, 1, clip, target⟩) s 0x52 tag .full [] u ∧ elsewhere u
          ∧ u.rpu = s.rpu ∧ u.evr = dropped call 0 1 2)
        ∧ (last.cls = .timed → ∃ u before behind, Decided (.page tag ⟨2, 1, clip, target⟩) s 0x52 tag .ok
            [.u16 number, .u8 1, .u32 (before.length + 1)] u
          ∧ elsewhere u ∧ front = before ++ behind ∧ u.rpu.queue = before ++ call :: behind
          ∧ (∀ q ∈ before, q.cls ≠ .timed) ∧ (∀ q, behind.head? = some q → q.cls = .timed)
          ∧ u.rpu.active = s.rpu.active ∧ u.evr = dropped last last.number last.origin.number 3))
    ∧ (∀ a, s.rpu.active = some a →
      (a.page.cls = .talk → ∃ u, Decided (.page tag ⟨1, 0, 0, target⟩) s 0x52 tag .ok [.u16 a.page.number, .u8 3] u
        ∧ elsewhere u ∧ u.evr = s.evr ∧ u.rpu.queue = s.rpu.queue
        ∧ u.rpu.active = some { a with
            page := united a.page, zoneSet := zonesSelected s (united a.page).mask (united a.page).zones }
        ∧ (∀ z, 1 ≤ z → z ≤ 24 → z ∈ zonesSelected s (united a.page).mask (united a.page).zones → z ∉ a.zoneSet →
            zoneOf u z = joined (a.attack == none) z)
        ∧ ∀ z, z ∈ zonesSelected s (united a.page).mask (united a.page).zones → z ∈ a.zoneSet → zoneOf u z = zoneOf s z)
      ∧ (∀ before q behind, a.page.cls = .stop → s.rpu.queue = before ++ q :: behind → q.cls = .talk →
          (∀ x ∈ before ++ behind, x.cls ≠ .talk) →
          Decided (.page tag ⟨1, 0, 0, target⟩) s 0x52 tag .ok [.u16 q.number, .u8 3]
            ((heard s).withRpu { s.rpu with queue := before ++ united q :: behind }))
      ∧ (a.page.cls = .call ∨ a.page.cls = .timed → (∀ q ∈ s.rpu.queue, q.cls ≠ .talk) → a.zoneSet.Nodup →
          let back : Prop := a.page.source ≠ .live ∧ a.page.replayed = false ∧ ∀ q ∈ s.rpu.queue, ¬equal q a.page
          ∃ u, Decided (.page tag ⟨1, 0, 0, target⟩) s 0x52 tag .ok [.u16 number, .u8 0] u ∧ elsewhere u
            ∧ u.rpu.active = some ⟨talk, zones, none⟩ ∧ u.rpu.voice.state = .idle
            ∧ (∀ z ∈ zones, zoneOf u z = joined true z)
            ∧ (∀ z ∈ a.zoneSet, z ∉ zones → zoneOf u z = left z)
            ∧ (∀ z, z ∉ a.zoneSet → z ∉ zones → zoneOf u z = zoneOf s z)
            ∧ (back → s.rpu.queue.length < 8 →
                (∃ before behind, s.rpu.queue = before ++ behind
                  ∧ u.rpu.queue = before ++ { a.page with replayed := true } :: behind
                  ∧ (∀ q ∈ before, q.cls.number < a.page.cls.number)
                  ∧ ∀ q, behind.head? = some q → a.page.cls.number ≤ q.cls.number)
                ∧ u.evr = (raiseEvent .pagePreempted 0 (bytesOf 2 a.page.number ++ bytesOf 1 a.page.cls.number
                    ++ bytesOf 2 number ++ bytesOf 1 0) s).evr)
            ∧ (¬back → u.rpu.queue = s.rpu.queue
                ∧ u.evr = (raiseEvent .pagePreempted 0 (bytesOf 2 a.page.number ++ bytesOf 1 a.page.cls.number
                    ++ bytesOf 2 number ++ bytesOf 1 1) s).evr)))
    ∧ ∀ (a : ActivePage) (q : Page) (rest : List Page), s.rpu.active = some a → a.page.cls ≠ .stop → a.page.number ≤ 65535 →
        1 ≤ a.page.number → s.rpu.queue = q :: rest → (∀ x ∈ s.rpu.queue, x.number ≠ a.page.number) → a.zoneSet.Nodup →
        q.source = .live → zonesSelected s q.mask q.zones ≠ [] →
        ∃ u, Decided (.cancelPage tag a.page.number) s 0x53 tag .ok [] u ∧ elsewhere u ∧ u.evr = s.evr
          ∧ u.rpu.active = some ⟨q, zonesSelected s q.mask q.zones, none⟩ ∧ u.rpu.queue = rest ∧ u.rpu.voice.state = .idle
          ∧ (∀ z ∈ zonesSelected s q.mask q.zones, (zoneOf u z).inPage = true ∧ (zoneOf u z).paged = true)
          ∧ ∀ z ∈ a.zoneSet, z ∉ zonesSelected s q.mask q.zones → zoneOf u z = left z

/-- When the active page's attack timer has run out, its zones are paged and the call voice may start; the call voice starts at
frame 0 once the attack is complete and its threshold is buffered, its wait recorded; when it has played its last frame the
page ends with release. Elsewhere the three rows change nothing of the relay and paging unit (R139, R140, R144).
That a row with nothing due changes nothing is the model's choice (log entry 8). -/
def Obligations.ClipPagesRunTheirCourse : Prop :=
  ∀ (a : ActivePage) (s : State), s.rpu.active = some a → sparseRising none s.rpu.zones = true → a.zoneSet.Nodup →
    let started (now : Bool) (u : State) : Prop :=
      if now = true ∧ s.rpu.voice.state = .loading
          ∧ (s.rpu.voice.copy.any fun e => decide (e.threshold ≤ s.rpu.voice.buffer.length)) = true then
        u.rpu.voice = { s.rpu.voice with
          state := .playing, position := 0, lateStart := min 65535 s.rpu.voice.waited }
      else u.rpu.voice = s.rpu.voice
    let elsewhere (u : State) : Prop :=
      u.mix = s.mix ∧ u.fbg = s.fbg ∧ u.hsu = s.hsu ∧ u.tmu = s.tmu ∧ u.cst = s.cst ∧ u.seq = s.seq ∧ u.ply = s.ply
        ∧ u.evr = s.evr ∧ u.clink = s.clink ∧ u.rpu.settings = s.rpu.settings ∧ u.rpu.nextNumber = s.rpu.nextNumber
        ∧ u.cmc.flash = s.cmc.flash
    (∃ u, exec .attackTimerExpiry s = .next (settle u) ∧ elsewhere u ∧ u.rpu.queue = s.rpu.queue
      ∧ if a.attack = some 0 then
          u.rpu.active = some { a with attack := none } ∧ started true u
            ∧ (∀ z, z ∉ a.zoneSet → zoneOf u z = zoneOf s z)
            ∧ ∀ z ∈ a.zoneSet, zoneOf u z = { zoneOf s z with paged := true }
        else u = s)
    ∧ (∃ u, exec .callVoiceStart s = .next (settle u) ∧ elsewhere u ∧ started (a.attack == none) u
        ∧ u.rpu.active = s.rpu.active ∧ u.rpu.queue = s.rpu.queue ∧ u.rpu.zones = s.rpu.zones)
    ∧ (∀ e, s.rpu.voice.state = .playing → s.rpu.voice.copy = some e → s.rpu.queue = [] →
        ∃ u, exec .clipPageEnd s = .next (settle u) ∧ elsewhere u
          ∧ if e.length ≤ s.rpu.voice.position then
              u.rpu.active = none ∧ u.rpu.queue = [] ∧ u.rpu.voice.state = .idle ∧ u.rpu.voice.buffer = []
                ∧ u.rpu.voice.underruns = s.rpu.voice.underruns
                ∧ (∀ z, z ∉ a.zoneSet → zoneOf u z = zoneOf s z)
                ∧ ∀ z ∈ a.zoneSet, zoneOf u z = { zoneOf s z with
                    inPage := false, paged := false
                    duck := if (zoneOf s z).enabled then (zoneOf s z).duck.start 0 s.rpu.settings.release
                      else ⟨0, none⟩ }
            else u = s)

/-! ### Settings, holds, timers and masks -/

/-- SET ZONE, SET PAGING, SET LINE and SET STOP are BUSY during a save and refuse what is out of range; taken, each replaces all
its settings, clamped. A new depth limits the zone's duck, and starts it toward the new depth in a page or toward 0 in a
release; a disabled zone is cleared; a change of enabled flag or group resolves the active page's zone set again, and the zone
joins or leaves it. A line whose active level changes restarts, an asserted one being released first, and counts afresh when
its debounce changes; a mode put to LEVEL takes the line state from its debouncer. A new stop depth limits the main duck, which
starts toward it during show stop and toward 0 in a release, and during show stop a bus whose injection code changes ramps to
the new one (R131, R138, R140, R142, R146, R147, R151, R156, R157, R159, R165).
That an unchanged depth leaves the duck alone is the model's reading (log entry 18), and that a new depth acts before the zone
set is resolved again is its choice (log entry 44). -/
def Obligations.SettingsReplaceWhatTheyName : Prop :=
  ∀ (tag n : Nat) (z : ZoneBody) (g : PagingBody) (l : LineBody) (b : StopBody) (s : State), LinkOpen s →
    (saving s = true →
      Decided (.setZone tag n z) s 0x50 tag .busy [] (heard s)
        ∧ Decided (.setPaging tag g) s 0x55 tag .busy [] (heard s)
        ∧ Decided (.setLine tag n l) s 0x5E tag .busy [] (heard s)
        ∧ Decided (.setStop tag b) s 0x5F tag .busy [] (heard s))
    ∧ (saving s = false →
      ((n = 0 ∨ 24 < n ∨ z.group = 0 ∨ 8 < z.group ∨ 1 < z.enabled) →
        Decided (.setZone tag n z) s 0x50 tag .outOfRange [] (heard s))
      ∧ (1 ≤ n → n ≤ 24 → 1 ≤ z.group → z.group ≤ 8 → z.enabled ≤ 1 → sparseRising none s.rpu.zones = true →
        let x := zoneOf s n
        let depth := max (-1536) (min 0 z.depth)
        let stays : Bool := x.enabled && decide (z.enabled = 1)
        let duck : Duck :=
          if stays = false then ⟨0, none⟩
          else if depth = x.depth then x.duck
          else if x.inPage then (x.duck.within depth).start depth s.rpu.settings.attack
          else if x.duck.run = none then x.duck.within depth
          else (x.duck.within depth).start 0 s.rpu.settings.release
        let stored : Zone :=
          { enabled := decide (z.enabled = 1), group := z.group, relay := max (-1536) (min 192 z.relay)
            page := max (-1536) (min 192 z.page), depth := depth, duck := duck
            inPage := stays && x.inPage, paged := stays && x.paged, clips := x.clips
            gr := if stays then x.gr else ⟨0, 0⟩, gp := if stays then x.gp else ⟨0, 0⟩ }
        ∃ u, Decided (.setZone tag n z) s 0x50 tag
            (if (-1536 ≤ z.relay ∧ z.relay ≤ 192) ∧ (-1536 ≤ z.page ∧ z.page ≤ 192) ∧ (-1536 ≤ z.depth ∧ z.depth ≤ 0)
              then .ok else .okClamped) [] u
          ∧ u = (heard s).withRpu { s.rpu with zones := u.rpu.zones, active := u.rpu.active }
          ∧ (s.rpu.active = none → u.rpu.active = none ∧ zoneOf u n = stored ∧ ∀ m, m ≠ n → zoneOf u m = zoneOf s m)
          ∧ ∀ a, s.rpu.active = some a → a.zoneSet = zonesSelected s a.page.mask a.page.zones →
            let now := zonesSelected u a.page.mask a.page.zones
            u.rpu.active = some { a with zoneSet := now }
              ∧ (∀ m, 1 ≤ m → m ≤ 24 → m ≠ n → (zoneOf u m = zoneOf s m ∧ (m ∈ now ↔ m ∈ a.zoneSet)))
              ∧ (n ∈ now ↔ z.enabled = 1 ∧ (a.page.mask.testBit (z.group - 1) = true ∨ n ∈ a.page.zones))
              ∧ zoneOf u n =
                  (if n ∈ now ∧ n ∉ a.zoneSet then
                    { stored with
                      inPage := true, paged := a.attack == none, duck := duck.start depth s.rpu.settings.attack }
                  else if n ∈ a.zoneSet ∧ n ∉ now then
                    { stored with
                      inPage := false, paged := false
                      duck := if z.enabled = 1 then duck.start 0 s.rpu.settings.release else ⟨0, none⟩ }
                  else stored))
      ∧ ((g.talkSource = 0 ∨ 32 < g.talkSource ∨ g.talkGroups = 0 ∨ 255 < g.talkGroups) →
        Decided (.setPaging tag g) s 0x55 tag .outOfRange [] (heard s))
      ∧ (1 ≤ g.talkSource → g.talkSource ≤ 32 → 1 ≤ g.talkGroups → g.talkGroups ≤ 255 →
        Decided (.setPaging tag g) s 0x55 tag
          (if (-1536 ≤ g.talkLevel ∧ g.talkLevel ≤ 192) ∧ g.attack ≤ 1000 ∧ g.release ≤ 5000 then .ok else .okClamped) []
          ((heard s).withRpu { s.rpu with
            settings := ⟨g.talkSource, max (-1536) (min 192 g.talkLevel), g.talkGroups, min 1000 g.attack,
              min 5000 g.release⟩ }))
      ∧ ((n = 0 ∨ 4 < n ∨ 1 < l.activeLevel ∨ 1 < l.mode ∨ (l.mode = 1 ∧ (n = 1 ∨ n = 4))) →
        Decided (.setLine tag n l) s 0x5E tag .outOfRange [] (heard s))
      ∧ (1 ≤ n → n ≤ 4 → l.activeLevel ≤ 1 → l.mode ≤ 1 → (l.mode = 1 → n = 2 ∨ n = 3) →
        sparseRising none s.tmu.lines = true →
        let x := lineOf s n
        let high := decide (l.activeLevel = 0)
        let debounce := max 2 (min 50 l.debounce)
        let restarts : Prop := high ≠ x.activeHigh
        let released : Prop := restarts ∧ x.state = .asserted
        ∃ u, Decided (.setLine tag n l) s 0x5E tag (if 2 ≤ l.debounce ∧ l.debounce ≤ 50 then .ok else .okClamped) [] u
          ∧ (∀ m, m ≠ n → lineOf u m = lineOf s m)
          ∧ lineOf u n = { x with
              activeHigh := high, debounce := debounce, toggle := decide (l.mode = 1)
              state := if high ≠ x.activeHigh then .undecided else x.state
              count := if high ≠ x.activeHigh ∨ debounce ≠ x.debounce then 0 else x.count }
          ∧ u.hsu.holdLine = (if n = 2 ∧ high ≠ x.activeHigh ∧ x.state = .asserted ∧ x.toggle = false then false
              else if n = 2 ∧ x.toggle = true ∧ l.mode = 0 then decide ((lineOf u n).state = .asserted)
              else s.hsu.holdLine)
          ∧ u.hsu.stopLine = (if n = 3 ∧ high ≠ x.activeHigh ∧ x.state = .asserted ∧ x.toggle = false then false
              else if n = 3 ∧ x.toggle = true ∧ l.mode = 0 then decide ((lineOf u n).state = .asserted)
              else s.hsu.stopLine)
          ∧ (n ≠ 4 ∨ ¬released → u = ((heard s).withTmu { s.tmu with lines := u.tmu.lines }).withHsu
              { s.hsu with holdLine := u.hsu.holdLine, stopLine := u.hsu.stopLine })
          ∧ (n = 4 → released → TalkLineGone s u ∧ u.tmu = { s.tmu with lines := u.tmu.lines } ∧ u.hsu = s.hsu
              ∧ u.clink = (heard s).clink ∧ u.cst = s.cst ∧ u.seq = s.seq ∧ u.mix = s.mix ∧ u.ply = s.ply ∧ u.fbg = s.fbg
              ∧ u.cmc.flash = s.cmc.flash ∧ u.cmc.directory = s.cmc.directory ∧ u.cmc.slot = s.cmc.slot))
      ∧ (255 < b.announceBuses → Decided (.setStop tag b) s 0x5F tag .outOfRange [] (heard s))
      ∧ (b.announceBuses ≤ 255 → sparseRising none s.hsu.injections = true →
        let new : StopSettings := ⟨max (-1536) (min 0 b.depth), min 5000 b.attack, min 5000 b.release, b.announceBuses,
          max (-1536) (min 192 b.announceLevel), max (-1536) (min 192 b.foldbackLevel)⟩
        let code (g : StopSettings) (bus : Nat) : Nat :=
          let x := if bus ≤ 8 then g.announceLevel else g.foldbackLevel
          if (bus ≤ 8 ∧ g.announceBuses.testBit (bus - 1) = false) ∨ x = off then 0 else gainCode x
        ∃ u, Decided (.setStop tag b) s 0x5F tag
            (if (-1536 ≤ b.depth ∧ b.depth ≤ 0) ∧ b.attack ≤ 5000 ∧ b.release ≤ 5000
                ∧ (-1536 ≤ b.announceLevel ∧ b.announceLevel ≤ 192) ∧ (-1536 ≤ b.foldbackLevel ∧ b.foldbackLevel ≤ 192)
              then .ok else .okClamped) (holdReport u) u
          ∧ u = (heard s).withHsu { s.hsu with
              settings := new, injections := u.hsu.injections
              duck :=
                if new.depth = s.hsu.settings.depth then s.hsu.duck
                else if s.hsu.stopActive then (s.hsu.duck.within new.depth).start new.depth new.attack
                else if s.hsu.duck.run = none then s.hsu.duck.within new.depth
                else (s.hsu.duck.within new.depth).start 0 new.release }
          ∧ (s.hsu.stopActive = false → u.hsu.injections = s.hsu.injections)
          ∧ (s.hsu.stopActive = true → ∀ bus, 1 ≤ bus → bus ≤ 20 → injectionOf u bus =
              (if code s.hsu.settings bus = code new bus then injectionOf s bus
              else ⟨(injectionOf s bus).code,
                some ⟨(injectionOf s bus).code, code new bus, 0, decide (code new bus ≠ 0)⟩⟩))))

/-- HOLD and SHOW STOP carry an action, ON 0, OFF 1 or REPORT 2, and any other is refused; ON sets the request flag, OFF clears
it, REPORT leaves it, and the reply is the report with the flag as it is left and the published values as they stand. The
six rows are these requests with their actions (R152, R160).
That ON, OFF and REPORT are numbered 0, 1 and 2 is the model's reading (log entry 22). -/
def Obligations.HoldAndStopRequestsSetTheirFlags : Prop :=
  ∀ (tag action : Nat) (s : State), LinkReady s →
    let answer (r : Request) (code : Nat) (status : Status) (contents : List Field) (u : State) : Prop :=
      arrive tag r s = settle (sendReply code tag status contents u)
    (exec (.holdOn tag) s = .next (arrive tag (.hold 0) s) ∧ exec (.holdOff tag) s = .next (arrive tag (.hold 1) s)
      ∧ exec (.holdReport tag) s = .next (arrive tag (.hold 2) s)
      ∧ exec (.showStopOn tag) s = .next (arrive tag (.showStop 0) s)
      ∧ exec (.showStopOff tag) s = .next (arrive tag (.showStop 1) s)
      ∧ exec (.showStopReport tag) s = .next (arrive tag (.showStop 2) s))
    ∧ (loading s = true → answer (.hold action) 0x13 .busy [] (heard s)
        ∧ answer (.showStop action) 0x14 .busy [] (heard s))
    ∧ (loading s = false → 2 < action → answer (.hold action) 0x13 .outOfRange [] (heard s)
        ∧ answer (.showStop action) 0x14 .outOfRange [] (heard s))
    ∧ (loading s = false → action ≤ 2 →
        let held := (heard s).withHsu { s.hsu with
          holdRequest := if action = 0 then true else if action = 1 then false else s.hsu.holdRequest }
        let stopped := (heard s).withHsu { s.hsu with
          stopRequest := if action = 0 then true else if action = 1 then false else s.hsu.stopRequest }
        answer (.hold action) 0x13 .ok (holdReport held) held
          ∧ answer (.showStop action) 0x14 .ok (holdReport stopped) stopped)

/-- SET EVENT MASK refuses a mask with a bit above the eighteenth and otherwise replaces the mask at once and replies with it. A
masked kind's raises are not recorded, merges included, an unmasked kind's are; the occupied slots stay, keep ATTN asserted
and are chosen as before; the mask is no part of the show file (R185). -/
def Obligations.MaskedKindsAreNotRecorded : Prop :=
  ∀ (tag mask : Nat) (s : State), LinkOpen s → sparseRising none s.evr.slots = true →
    (262144 ≤ mask → Decided (.setEventMask tag mask) s 0x04 tag .outOfRange [] (heard s))
    ∧ (mask < 262144 →
      let u := (heard s).withEvr { s.evr with mask := BitVec.ofNat 18 mask }
      Decided (.setEventMask tag mask) s 0x04 tag .ok [.u24 mask] u
        ∧ u.attn = s.attn ∧ chosenEvent u = chosenEvent s ∧ showFile (showNow u) = showFile (showNow s)
        ∧ ∀ (kind : EventKind) (source : Nat) (detail : List Byte),
            (mask.testBit (kind.number - 1) = true → raiseEvent kind source detail u = u)
            ∧ (mask.testBit (kind.number - 1) = false →
                ∃ e, sparseFind (raiseEvent kind source detail u).evr.slots (kind.number * 32 + source) = some e
                  ∧ e.detail = (detail ++ List.replicate 8 0).take 8 ∧ e.latest = s.tmu.clock
                  ∧ (raiseEvent kind source detail u).attn = true
                  ∧ ∀ k, k ≠ kind.number * 32 + source →
                      sparseFind (raiseEvent kind source detail u).evr.slots k = sparseFind s.evr.slots k))

/-- ARM TIMER arms a timer for a time 1 to 2^31 - 1 ms ahead and answers target and ARMED; for any other it fires at once, late,
and answers FIRED. An ARMED timer fires when its target equals the show clock, and at no other; a CALL payload asks for its
page as origin TIMER. DISARM TIMER leaves target, payload and late flag (R168, R169, R170).
That a row with nothing due changes nothing is the model's choice (log entry 8), and ARM TIMER's contents are its
reading (log entry 24). -/
def Obligations.TimersArmFireAndDisarm : Prop :=
  ∀ (tag n time : Nat) (s : State), LinkOpen s → sparseRising none s.tmu.timers = true → 1 ≤ n → n ≤ 8 →
    let d := (BitVec.ofNat 32 time - s.tmu.clock).toNat
    let others (u : State) : Prop :=
      (∀ m, m ≠ n → timerOf u m = timerOf s m)
        ∧ u = ((heard s).withTmu { s.tmu with timers := u.tmu.timers }).withEvr { s.evr with slots := u.evr.slots }
    (∀ payload, payloadInRange payload = true → time < 2 ^ 32 → 1 ≤ d → d ≤ 2147483647 →
      ∃ u, Decided (.armTimer tag n 0 time payload) s 0x59 tag .ok [.u32 time, .u8 1] u ∧ others u ∧ u.evr = s.evr
        ∧ timerOf u n = ⟨.armed, BitVec.ofNat 32 time, payload, false⟩)
    ∧ (time < 2 ^ 32 → (d = 0 ∨ 2147483647 < d) →
      ∃ u, Decided (.armTimer tag n 0 time .eventOnly) s 0x59 tag .ok [.u32 time, .u8 2] u ∧ others u
        ∧ u.evr = (raiseEvent .timerFired n [1] s).evr ∧ timerOf u n = ⟨.fired, BitVec.ofNat 32 time, .eventOnly, true⟩)
    ∧ (∀ payload, 1 ≤ time → time ≤ 2147483647 → payloadInRange payload = true →
      ∃ u, Decided (.armTimer tag n 1 time payload) s 0x59 tag .ok
          [.u32 (s.tmu.clock + BitVec.ofNat 32 time).toNat, .u8 1] u ∧ others u ∧ u.evr = s.evr
        ∧ timerOf u n = ⟨.armed, s.tmu.clock + BitVec.ofNat 32 time, payload, false⟩)
    ∧ (∃ u, Decided (.disarmTimer tag n) s 0x5A tag .ok [] u ∧ others u ∧ u.evr = s.evr
        ∧ timerOf u n = { timerOf s n with state := .disarmed })
    ∧ (((timerOf s n).state ≠ .armed ∨ (timerOf s n).target ≠ s.tmu.clock) →
        exec (.callTimerFire n) s = .next (settle s))
    ∧ ((timerOf s n).state = .armed → (timerOf s n).target = s.tmu.clock →
        let fired := raiseEvent .timerFired n [0]
          (s.withTmu { s.tmu with
            timers := sparseWrite {} s.tmu.timers n { timerOf s n with state := .fired, late := false } })
        ((timerOf s n).payload = .eventOnly → exec (.callTimerFire n) s = .next (settle fired))
        ∧ ∀ clip target, (timerOf s n).payload = .call clip target →
            ∃ r : Page, r.cls = .timed ∧ r.source = .clip clip ∧ r.origin = .timer
              ∧ (r.mask, r.zones) = (match target with
                  | .groups mask => (mask, [])
                  | .zone z => (0, [z])
                  | .invalid _ _ => (0, []))
              ∧ exec (.callTimerFire n) s = .next (settle (requestPage r fired).1))

/-! ### Reports -/

/-- The reads that change nothing are answered OK with their report, or refused for a number out of range or that names
nothing. READ CROSSPOINT gives level, master, the gain code in force and the fade, if any; READ RUNNING, READ PLAYER and READ
GO RECORD give their fields as listed, a list with its count and an absent thing as 0 (R10, R32, R44, R66, R91, R96, R149, R170
to R174, R181).
The layouts of the reports are the model's choice where R187 leaves them open (log entries 10, 16, 22, 23, 33, 42, 43). -/
def Obligations.ReportsChangeNothing : Prop :=
  ∀ (tag n bus : Nat) (number : CueNumber) (s : State), LinkOpen s →
    let reports (i : Instr) (code : Nat) (contents : List Field) : Prop := Decided i s code tag .ok contents (heard s)
    let refuses (i : Instr) (code : Nat) (status : Status) : Prop := Decided i s code tag status [] (heard s)
    let flag (b : Bool) : Field := .u8 (if b then 1 else 0)
    let cue (c : Option CueNumber) : Field := .bytes (cueBytes c)
    let owner (o : Owner) : List Field := [.u8 o.slot, .u8 o.index]
    let p := playerOf s n
    (∀ (α : Type) (f : α → List Field) (xs : List α) (x : α), listFields f xs = .u8 xs.length :: xs.flatMap f
        ∧ optionFields f none = [.u8 0] ∧ optionFields f (some x) = .u8 1 :: f x)
    ∧ (reports (.identify tag) 0x01 [.u16 0x4820, .u8 1, .u16 1, .u32 s.cmc.capacity, .u8 s.clink.rate]
      ∧ reports (.readRunning tag) 0x1B
          ([.u8 (if s.seq.showState = .inShow then 1 else 0), cue (standbyNumber s), flag s.seq.skipCut,
              .u16 s.seq.lockoutSetting, .u32 s.seq.lockout, flag s.hsu.holdEffective]
            ++ listFields (fun x : Nat × Entry =>
                [.u8 x.1, .u16 ((cueIndex s x.2.cue.number).getD 0), cue (some x.2.cue.number), .u8 x.2.origin.number,
                  .u8 x.2.phase.number, .u32 x.2.prewait, .u32 x.2.elapsed]
                ++ listFields (fun a : ActionState => [.u8 a.number]) x.2.states
                ++ [.u16 (x.2.states.filter fun a => a == .outstanding).length]
                ++ (match x.2.postwait with
                    | .absent => [.u8 0]
                    | .waiting => [.u8 1]
                    | .running r => [.u8 2, .u32 r]
                    | .ended => [.u8 3])
                ++ [cue x.2.followTarget, .u8 x.2.outcome.number]) s.seq.entries)
      ∧ reports (.readPreflight tag) 0x28 (preflightReport s)
      ∧ reports (.readPageQueue tag) 0x54 (pageQueueReport s) ∧ reports (.readClock tag) 0x58 (clockReport s)
      ∧ reports (.readTimers tag) 0x5B (timersReport s) ∧ reports (.readMarks tag) 0x5C (marksReport s)
      ∧ reports (.readGoRecord tag) 0x5D
          (listFields (fun e : GoEntry => [cue (some e.cue), .u32 e.time.toNat, .u8 e.origin.number, .u32 e.interval])
            s.tmu.goRecord)
      ∧ reports (.holdReport tag) 0x13 (holdReport s)
      ∧ reports (.showStopReport tag) 0x14 (holdReport s))
    ∧ (if 1 ≤ n ∧ n ≤ 48 ∧ 1 ≤ bus ∧ bus ≤ 25 then
        reports (.readCrosspoint tag n bus) 0x31
          ([.level (levelOf s n bus), .level (masterOf s bus),
              .u32 (sparseRead {} s.mix.codes ((n - 1) * 25 + (bus - 1))).g1]
            ++ (match slotOn s n bus with
                | none => [.u8 0]
                | some (k, f) => [.u8 1, .u8 k, .level f.start, .level f.target, .u32 f.duration, .u32 f.elapsed,
                    .u8 f.owner.number]))
      else refuses (.readCrosspoint tag n bus) 0x31 .outOfRange)
    ∧ (if 1 ≤ n ∧ n ≤ 8 then 
        reports (.readPlayer tag n) 0x42
          ((match p.state with
              | .idle => [.u8 0, .u8 0]
              | .loading => [.u8 1, .u8 0]
              | .readyPreload => [.u8 2, .u8 0]
              | .readyHold => [.u8 2, .u8 1]
              | .playing => [.u8 3, .u8 0]
              | .pausedPlaying => [.u8 4, .u8 0]
              | .pausedReleasing => [.u8 4, .u8 1]
              | .releasingStop => [.u8 5, .u8 0]
              | .releasingRetrigger => [.u8 5, .u8 1])
            ++ optionFields (fun c : Nat => [.u16 c]) p.clip
            ++ optionFields (fun e : DirEntry => [.u32 e.firstPage, .u32 e.length, .u8 e.channels]
                ++ optionFields (fun l : Nat × Nat => [.u32 l.1, .u32 l.2]) e.loop) p.copy
            ++ [.u32 p.position, .u16 p.loops] ++ optionFields (fun k : Nat => [.u32 k]) p.fetchNext ++ [.u16 p.fetchLoops]
            ++ listFields (fun b : Block => [.u32 b.number]) p.buffer
            ++ [.level p.env.level, .level p.env.start, .level p.env.target, .u32 p.env.elapsed, .u32 p.env.time]
            ++ optionFields (fun q : Play => [.u16 q.loops, .level q.level, .u32 q.attack] ++ optionFields owner q.owner)
                p.pending
            ++ optionFields owner p.owner
            ++ optionFields (fun r : Reservation => [cue (some r.cue), flag r.fired]) p.reservation
            ++ [.u32 (p.holdTimer.getD 0), .u16 p.underruns, .u16 p.lateStart, .u32 s.ply.holdTime])
      else refuses (.readPlayer tag n) 0x42 .outOfRange)
    ∧ (if n ≤ 255 then reports (.readDirectoryEntry tag n) 0x4C
          (.u16 n :: directoryFields (directoryBody (clipEntry s n)))
      else refuses (.readDirectoryEntry tag n) 0x4C .outOfRange)
    ∧ (if cueNumberInRange number then
        reports (.listCues tag number) 0x23 (listReport number s)
          ∧ (cueNamed s number = none → refuses (.readCue tag number) 0x21 .notFound)
          ∧ ∀ c k, cuesRising s.cst.cues = true → cueAt s k = some c → c.number = number →
              reports (.readCue tag number) 0x21 (cueReport k c)
      else refuses (.listCues tag number) 0x23 .outOfRange ∧ refuses (.readCue tag number) 0x21 .outOfRange)

/-- STATUS and READ SNAPSHOT clear recalled-since-read, TAKE EVENT frees the slot of the lowest kind and source it reports, READ
METERS clears every meter, READ GOVERNOR, with its fields as listed, clears RE-HUNT and READ ZONE, with its own, the zone's
clip count; each after its report is formed, and nothing else changes (R22, R35, R37, R126, R149, R181, R184).
The layouts of the reports are the model's choice where R187 leaves them open (log entries 10, 22, 23, 24). -/
def Obligations.ReadsClearWhatTheyReport : Prop :=
  ∀ (tag n : Nat) (s : State), LinkOpen s →
    let read := (heard s).withCst { s.cst with recalledSinceRead := false }
    let flag (b : Bool) : Field := .u8 (if b then 1 else 0)
    let g := governorOf s n
    let z := zoneOf s n
    Decided (.status tag) s 0x02 tag .ok (statusReport s) read
    ∧ (s.evr.slots = [] → Decided (.takeEvent tag) s 0x03 tag .ok
        [.u8 0, .u8 0, .u8 0, .bytes (List.replicate 8 0), .u32 0, .u32 0, .u8 0] (heard s))
    ∧ (∀ kind source e rest, source < 32 → s.evr.slots = (kind * 32 + source, e) :: rest →
        Decided (.takeEvent tag) s 0x03 tag .ok
          [.u8 kind, .u8 source, .u8 e.count, .bytes e.detail, .u32 e.first.toNat, .u32 e.latest.toNat, .u8 rest.length]
          ((heard s).withEvr { s.evr with slots := rest }))
    ∧ (∃ u, Decided (.readMeters tag) s 0x33 tag .ok
          ((List.range' 1 25).flatMap fun b => [.level (meterLevel (meterOf s b).peak), .u16 (meterOf s b).clips]) u
        ∧ (∀ b, meterOf u b = ⟨0, 0⟩) ∧ u = (heard s).withMix { s.mix with meters := u.mix.meters })
    ∧ ((n = 0 ∨ 12 < n) → Decided (.readGovernor tag n) s 0x39 tag .outOfRange [] (heard s))
    ∧ (1 ≤ n → n ≤ 12 → sparseRising none s.fbg.governors = true →
        ∃ u, Decided (.readGovernor tag n) s 0x39 tag .ok
            ([flag g.settings.enable, .level g.settings.target, .level g.settings.tolerance, .level g.settings.stepMax,
                .level g.settings.trimMin, .level g.settings.trimMax, .level g.settings.ceiling, flag g.enable,
                .level g.target, .u8 g.state.number]
              ++ (match g.gatedFrom with
                  | none => [.u8 0]
                  | some f => [.u8 1, .u8 (if f = .converged then 1 else if f = .stalled then 2 else 0)])
              ++ [.level g.trim, .u16 g.inBand, .u16 g.settle, .u16 g.lastSettle, flag g.rehunt, .u16 g.ceilingCount,
                  .level g.lastM, flag g.discard,
                  .u8 ((if g.freezeHold then 1 else 0) + 2 * (if g.freezeFade then 1 else 0))]) u
          ∧ governorOf u n = { governorOf s n with rehunt := false } ∧ (∀ m, m ≠ n → governorOf u m = governorOf s m)
          ∧ u = (heard s).withFbg { s.fbg with governors := u.fbg.governors })
    ∧ ((n = 0 ∨ 24 < n) → Decided (.readZone tag n) s 0x51 tag .outOfRange [] (heard s))
    ∧ (1 ≤ n → n ≤ 24 → sparseRising none s.rpu.zones = true →
        ∃ u, Decided (.readZone tag n) s 0x51 tag .ok
            ([flag z.enabled, .u8 z.group, .level z.relay, .level z.page, .level z.depth, .level z.duck.value]
              ++ (match z.duck.run with
                  | none => [.u8 0]
                  | some r => [.u8 1, .level r.start, .level r.target, .u32 r.time, .u32 r.elapsed])
              ++ [flag z.inPage, flag z.paged, .u16 z.clips]) u
          ∧ zoneOf u n = { zoneOf s n with clips := 0 } ∧ (∀ m, m ≠ n → zoneOf u m = zoneOf s m)
          ∧ u = (heard s).withRpu { s.rpu with zones := u.rpu.zones })
    ∧ (127 < n → Decided (.readSnapshot tag n) s 0x25 tag .outOfRange [] (heard s))
    ∧ (n ≤ 127 → sparseFind s.cst.snapshots n = none →
        Decided (.readSnapshot tag n) s 0x25 tag .notFound (recallFields s) read)
    ∧ ∀ entries, n ≤ 127 → sparseFind s.cst.snapshots n = some entries →
        Decided (.readSnapshot tag n) s 0x25 tag .ok (snapshotReport entries s) read

/-! ### Clip memory -/

/-- With the slot free, and the show state SETUP where the operation writes or loads, an operation is ACCEPTED and occupies the
slot at its first phase; WRITE PAGE, ERASE SECTOR and LOAD SHOW clear preflight-clean, LOAD SHOW takes standby away,
PREFLIGHT empties its report. READ PAGE waits in hand for its page. In SHOW all but VERIFY CLIP and READ PAGE are LOCKED,
with the slot occupied every one is BUSY, and a page, sector or clip out of its range is refused (R39, R100 to R104, R106,
R109). -/
def Obligations.OperationsAreAcceptedIntoTheSlot : Prop :=
  ∀ (tag place verify : Nat) (data : List Byte) (s : State), LinkOpen s →
    let into (o : Operation) (u : State) : State := u.withCmc { s.cmc with slot := some o }
    let unclean : State := (heard s).withCst { s.cst with clean := false }
    let all (status : Status) : Prop :=
      Decided (.preflight tag verify) s 0x27 tag status [] (heard s)
        ∧ Decided (.writePage tag place data) s 0x48 tag status [] (heard s)
        ∧ Decided (.eraseSector tag place) s 0x4A tag status [] (heard s)
        ∧ Decided (.saveShow tag) s 0x4E tag status [] (heard s)
        ∧ Decided (.loadShow tag) s 0x4F tag status [] (heard s)
    (s.seq.showState = .inShow → all .locked)
    ∧ (s.seq.showState = .setup → s.cmc.slot ≠ none → all .busy)
    ∧ (s.cmc.slot ≠ none → (place ≤ 255 → Decided (.verifyClip tag place) s 0x4D tag .busy [] (heard s))
        ∧ Decided (.readPage tag place) s 0x49 tag .busy [] (heard s))
    ∧ (s.cmc.slot = none →
      (s.seq.showState = .setup →
        (1 < verify → Decided (.preflight tag verify) s 0x27 tag .outOfRange [] (heard s))
        ∧ (verify ≤ 1 → Decided (.preflight tag verify) s 0x27 tag .accepted []
            (into (.preflight (decide (verify = 1)) ⟨1, 1, [], none⟩)
              ((heard s).withCst { s.cst with report := ⟨.running, decide (verify = 1), 0, 0, []⟩ })))
        ∧ ((place ≤ 1023 ∨ s.cmc.capacity ≤ place) →
            Decided (.writePage tag place data) s 0x48 tag .outOfRange [] (heard s))
        ∧ (1023 < place → place < s.cmc.capacity →
            Decided (.writePage tag place data) s 0x48 tag .accepted [] (into (.writePage place data false) unclean))
        ∧ ((place ≤ 15 ∨ s.cmc.capacity ≤ 64 * place) →
            Decided (.eraseSector tag place) s 0x4A tag .outOfRange [] (heard s))
        ∧ (15 < place → 64 * place < s.cmc.capacity →
            Decided (.eraseSector tag place) s 0x4A tag .accepted [] (into (.eraseSector place) unclean))
        ∧ Decided (.saveShow tag) s 0x4E tag .accepted [] (into (.saveShow (showFile (showNow s)) (.erase 0)) (heard s))
        ∧ ∃ u, Decided (.loadShow tag) s 0x4F tag .accepted [] u ∧ u.cmc = { s.cmc with
                slot := some (.load false .header), transfer := u.cmc.transfer }
            ∧ u.cst = { s.cst with clean := false } ∧ u.seq = { s.seq with standby := none } ∧ loading u = true
            ∧ u.evr = s.evr ∧ u.mix = s.mix ∧ u.fbg = s.fbg ∧ u.rpu = s.rpu ∧ u.hsu = s.hsu ∧ u.tmu = s.tmu)
      ∧ (∀ e, place ≤ 255 → clipEntry s place = some e →
          Decided (.verifyClip tag place) s 0x4D tag .accepted [] (into (.verifyClip place e 0 0xFFFF#16) (heard s)))
      ∧ (place ≤ 255 → clipEntry s place = none → Decided (.verifyClip tag place) s 0x4D tag .notFound [] (heard s))
      ∧ (s.cmc.capacity ≤ place → Decided (.readPage tag place) s 0x49 tag .outOfRange [] (heard s))
      ∧ (place < s.cmc.capacity → exec (.readPage tag place) s
          = .next (settle ((heard s).withClink { (heard s).clink with inHand := some ⟨tag, place⟩ }))))
    ∧ (255 < place → Decided (.verifyClip tag place) s 0x4D tag .outOfRange [] (heard s))

/-- When the link's transfer in flight ends well, an erase leaves FFh in its sector and its operation OK, a program leaves the
bits of old and new byte that are both 1 and its operation due to read back, a page read answers its READ PAGE; elsewhere the
flash stands. A verified clip's CRC is carried on and found to match or not after the last block. A save erases its 16
sectors, programs its pages, reads them back, and the stored show is VALID when every byte agrees; otherwise OP_DONE names the
first page that differs. A status failure, or the time limit of the transfer's kind, ends the operation FAILED with
MEMORY_FAULT, whatever its phase, and READ PAGE with READ_ERROR, no byte outside the program's page or the erase's sector
being touched; before the limit nothing is timed out (R93, R97, R100 to R104, R106).
What a failed program or erase leaves is free (log entry 6). That limits are counted in elapsed boundaries is the model's
reading (log entry 14); that a block read's error names the first of its four pages (log entry 46) and that a row with nothing
due changes nothing (log entry 8) are its choices. -/
def Obligations.TransfersEndTheirOperations : Prop :=
  ∀ (t : Transfer) (s : State), s.cmc.transfer = some t → t.client = .link → t.wanted = true → 0 < s.cmc.capacity →
    FlashLaw s →
    let stands (u : State) : Prop :=
      u.cmc.transfer = none ∧ u.cst = s.cst ∧ u.seq = s.seq ∧ u.mix = s.mix ∧ u.ply = s.ply ∧ u.fbg = s.fbg
        ∧ u.rpu = s.rpu ∧ u.hsu = s.hsu ∧ u.tmu = s.tmu ∧ u.cmc.directory = s.cmc.directory
    let frame (u : State) : Prop := stands u ∧ u.cmc.storedValid = s.cmc.storedValid
    let bytes (page count : Nat) : List Byte := (List.range count).map fun i => flashByte s.cmc.flash (1024 * page + i)
    let pages (file : List Byte) : Nat := (file.length + 1023) / 1024
    let done (u : State) : Prop := exec (.transferComplete false .split) s = .next (settle u) ∧ frame u
    let limit : Nat := match t.extent with
      | .blockRead _ => 2
      | .pageRead _ => 1
      | .pageProgram _ _ => 5
      | .sectorErase _ => 3000
    let kind : Nat := match t.extent with
      | .blockRead _ => 0
      | .pageRead _ => 1
      | .pageProgram _ _ => 2
      | .sectorErase _ => 3
    let place : Nat := match t.extent with
      | .blockRead page => page
      | .pageRead page => page
      | .pageProgram page _ => page
      | .sectorErase k => k
    let worked (a : Nat) : Prop := match t.extent with
      | .blockRead _ | .pageRead _ => False
      | .pageProgram page _ => 1024 * page ≤ a ∧ a < 1024 * page + 1024
      | .sectorErase k => 65536 * k ≤ a ∧ a < 65536 * k + 65536
    (∀ k, s.cmc.slot = some (.eraseSector k) → t.extent = .sectorErase k → ∃ u, done u ∧ u.cmc.slot = none
      ∧ (∀ a, flashByte u.cmc.flash a
          = if 65536 * k ≤ a ∧ a < 65536 * k + 65536 then 0xFF else flashByte s.cmc.flash a)
      ∧ u.clink = s.clink ∧ u.evr = (raiseEvent .opDone 0 ([1, 0, 0] ++ bytesOf 4 k) s).evr)
    ∧ (∀ page data, s.cmc.slot = some (.writePage page data false) → t.extent = .pageProgram page data →
        data.length = 1024 → ∃ u, done u ∧ u.cmc.slot = some (.writePage page data true)
      ∧ (∀ a, flashByte u.cmc.flash a
          = if 1024 * page ≤ a ∧ a < 1024 * page + 1024 then flashByte s.cmc.flash a &&& data.getD (a - 1024 * page) 0
            else flashByte s.cmc.flash a)
      ∧ u.clink = s.clink ∧ u.evr = s.evr)
    ∧ (∀ page data, s.cmc.slot = some (.writePage page data true) → t.extent = .pageRead page → ∃ u, done u
      ∧ u.cmc.slot = none ∧ u.cmc.flash = s.cmc.flash ∧ u.clink = s.clink
      ∧ u.evr = (raiseEvent .opDone 0
          ((if (List.range 1024).map (fun i => flashByte s.cmc.flash (1024 * page + i)) = data then [0, 0, 0] else [0, 1, 1])
            ++ bytesOf 4 page) s).evr)
    ∧ (∀ h, s.cmc.slot = none → s.clink.inHand = some h → t.extent = .pageRead h.page → ∃ u, done u
      ∧ u.cmc.flash = s.cmc.flash ∧ u.cmc.slot = none ∧ u.evr = s.evr
      ∧ u.clink = { s.clink with
          inHand := none
          replies := s.clink.replies ++ [⟨0x49, h.tag, .ok,
            [.u8 0, .bytes ((List.range 1024).map fun i => flashByte s.cmc.flash (1024 * h.page + i))]⟩] })
    ∧ (∀ (i : Instr) (cause : Nat), (i = .transferComplete true .split ∧ cause = 0)
          ∨ (i = .transferTimeLimit .split ∧ cause = 1 ∧ limit ≤ t.elapsed) →
        let raised := raiseEvent .memoryFault 0 (bytesOf 1 kind ++ bytesOf 1 cause ++ bytesOf 4 place) s
        let fails (u : State) : Prop := exec i s = .next (settle u) ∧ frame u ∧ u.cmc.slot = none
          ∧ (t.extent.writes = false → u.cmc.flash = s.cmc.flash)
          ∧ ∀ a, ¬worked a → flashByte u.cmc.flash a = flashByte s.cmc.flash a
        let failed (detail : List Byte) : Prop := ∃ u, fails u ∧ u.clink = s.clink
          ∧ u.evr = (raiseEvent .opDone 0 detail raised).evr
        (∀ page data again, s.cmc.slot = some (.writePage page data again) → failed ([0, 1, 0] ++ bytesOf 4 page))
        ∧ (∀ k, s.cmc.slot = some (.eraseSector k) → failed ([1, 1, 0] ++ bytesOf 4 k))
        ∧ (∀ clip e block crc, s.cmc.slot = some (.verifyClip clip e block crc) → failed ([2, 1, 0] ++ bytesOf 2 clip))
        ∧ (∀ file phase, s.cmc.slot = some (.saveShow file phase) → failed ([3, 1, 0] ++ bytesOf 4 place))
        ∧ ∀ h, s.cmc.slot = none → s.clink.inHand = some h → ∃ u, fails u ∧ u.evr = raised.evr
          ∧ u.clink = { s.clink with inHand := none, replies := s.clink.replies ++ [⟨0x49, h.tag, .ok, [.u8 1]⟩] })
    ∧ (∀ clip e block crc page, s.cmc.slot = some (.verifyClip clip e block crc) → t.extent = .blockRead page → ∃ u, done u
      ∧ u.cmc.flash = s.cmc.flash ∧ u.clink = s.clink
      ∧ let formed := crcFrom crc ((bytes page 4096).take (e.length * e.channels * 4 - 4096 * block))
        if block + 1 < (e.length * e.channels * 4 + 4095) / 4096 then
          u.cmc.slot = some (.verifyClip clip e (block + 1) formed) ∧ u.evr = s.evr
        else u.cmc.slot = none ∧ u.evr = (raiseEvent .opDone 0
          ([2, 0, if formed = e.crc then 0 else 1] ++ bytesOf 2 clip ++ bytesOf 2 formed.toNat) s).evr)
    ∧ (∀ file k, s.cmc.slot = some (.saveShow file (.erase k)) → t.extent = .sectorErase k → ∃ u, done u
      ∧ u.cmc.slot = some (.saveShow file (if k < 15 then .erase (k + 1) else .program 0)) ∧ u.clink = s.clink
      ∧ u.evr = s.evr
      ∧ ∀ a, flashByte u.cmc.flash a
          = if 65536 * k ≤ a ∧ a < 65536 * k + 65536 then 0xFF else flashByte s.cmc.flash a)
    ∧ (∀ file page data, s.cmc.slot = some (.saveShow file (.program page)) → t.extent = .pageProgram page data →
        data.length = 1024 → ∃ u, done u
      ∧ u.cmc.slot = some (.saveShow file (if page + 1 < pages file then .program (page + 1) else .readBack 0 []))
      ∧ u.clink = s.clink ∧ u.evr = s.evr
      ∧ ∀ a, flashByte u.cmc.flash a
          = if 1024 * page ≤ a ∧ a < 1024 * page + 1024 then flashByte s.cmc.flash a &&& data.getD (a - 1024 * page) 0
            else flashByte s.cmc.flash a)
    ∧ (∀ file b before, s.cmc.slot = some (.saveShow file (.readBack b before)) → t.extent = .blockRead (4 * b) →
      ∃ u, exec (.transferComplete false .split) s = .next (settle u) ∧ stands u ∧ u.cmc.flash = s.cmc.flash
        ∧ u.clink = s.clink
        ∧ let read := before ++ bytes (4 * b) 4096
          if b + 1 < (pages file + 3) / 4 then
            u.cmc.slot = some (.saveShow file (.readBack (b + 1) read)) ∧ u.evr = s.evr
              ∧ u.cmc.storedValid = s.cmc.storedValid
          else u.cmc.slot = none ∧
            if fileCrcGood (read.take file.length) = true ∧ read.take file.length = file then
              u.cmc.storedValid = true
                ∧ u.evr = (raiseEvent .opDone 0 ([3, 0, 0] ++ bytesOf 4 file.length) s).evr
            else
              let same (page : Nat) : Prop :=
                (file.drop (1024 * page)).take 1024 = ((read.take file.length).drop (1024 * page)).take 1024
              u.cmc.storedValid = s.cmc.storedValid
                ∧ ∃ page, u.evr = (raiseEvent .opDone 0 ([3, 1, 1] ++ bytesOf 4 page) s).evr
                  ∧ if read.take file.length = file then page = 0
                    else page < pages file ∧ ¬same page ∧ ∀ q, q < page → same q)
    ∧ (s.clink.queue = [] → loading s = false → s.rpu.voice.state ≠ .loading →
        (∀ n, 1 ≤ n → n ≤ 8 → (playerOf s n).pending = none) →
        ∀ failed, exec (.transferComplete failed .whole) s = exec (.transferComplete failed .split) s)
    ∧ (t.elapsed < limit → exec (.transferTimeLimit .split) s = .next (settle s))

/-- Whoever wants the memory link, a command that finds nothing due ends with the arbiter's decision, while no transfer is in
flight: an eligible link transfer once it has waited 8 playback grants; else the playback client with the fewest blocks, the
call voice first and then the lowest player among equals, which a waiting link transfer counts; else an eligible link
transfer, whose wait count returns to 0; else the block that the preflight reads. A program or an erase is eligible while no
player is PLAYING and the call voice is idle (R98, R99).
That clients who come to want a transfer together are chosen from by the same order is the model's choice (log entry 35), and
so is that the row changes nothing else (log entry 8). -/
def Obligations.ArbiterGrantsInOrder : Prop :=
  ∀ (k : Nat) (s : State), sparseFind s.mix.slots k = none → QuietSeq s →
    let playback : Prop := (∃ n b e, PlayerWants s n b e) ∨ ∃ b e, VoiceWants s b e
    let silent : Prop := (∀ n, 1 ≤ n → n ≤ 8 → (playerOf s n).state ≠ .playing) ∧ s.rpu.voice.state = .idle
    let eligible (x : Extent) : Prop := x.writes = false ∨ silent
    let waited := s.cmc.linkWait
    let granted (client : Client) (x : Extent) (block wait : Nat) (valid : Bool) : Prop :=
      exec (.fadeEnd k) s = .next (s.withCmc { s.cmc with
        transfer := some ⟨client, x, block, 0, true⟩, linkWait := wait, storedValid := valid })
    let link (x : Extent) : Prop :=
      granted .link x 0 0 (if saving s = true ∧ x = .sectorErase 0 then false else s.cmc.storedValid)
    let counted : Nat := if linkWants s = none then waited else waited + 1
    (s.cmc.transfer ≠ none → exec (.fadeEnd k) s = .next s)
    ∧ (s.cmc.transfer = none →
      (∀ x, linkWants s = some x → eligible x → 8 ≤ waited ∨ ¬playback → link x)
      ∧ ((∀ x, linkWants s = some x → ¬eligible x ∨ waited < 8) →
        (∀ b e, VoiceWants s b e → (∀ m c f, PlayerWants s m c f → s.rpu.voice.buffer.length ≤ (playerOf s m).buffer.length) →
          granted .voice (.blockRead (e.firstPage + 4 * b)) b counted s.cmc.storedValid)
        ∧ ∀ n b e, PlayerWants s n b e →
            (∀ c f, VoiceWants s c f → (playerOf s n).buffer.length < s.rpu.voice.buffer.length) →
            (∀ m c f, PlayerWants s m c f → (playerOf s n).buffer.length < (playerOf s m).buffer.length
              ∨ ((playerOf s n).buffer.length = (playerOf s m).buffer.length ∧ n ≤ m)) →
            granted (.player n) (.blockRead (e.firstPage + 4 * b)) b counted s.cmc.storedValid)
      ∧ (¬playback → (∀ x, linkWants s = some x → ¬eligible x) →
        (∀ verify w clip e block crc, s.cmc.slot = some (.preflight verify w) → w.reading = some (clip, e, block, crc) →
          granted .verify (.blockRead (e.firstPage + 4 * block)) 0 waited s.cmc.storedValid)
        ∧ ((∀ verify w, s.cmc.slot = some (.preflight verify w) → w.reading = none) → exec (.fadeEnd k) s = .next s)))
    ∧ (∀ page data readBack, s.cmc.slot = some (.writePage page data readBack) →
        linkWants s = some (if readBack then .pageRead page else .pageProgram page data))
    ∧ (∀ sector, s.cmc.slot = some (.eraseSector sector) → linkWants s = some (.sectorErase sector))
    ∧ (∀ clip e block crc, s.cmc.slot = some (.verifyClip clip e block crc) →
        linkWants s = some (.blockRead (e.firstPage + 4 * block)))
    ∧ (s.cmc.slot = none → linkWants s = s.clink.inHand.map fun h => .pageRead h.page)

/-- WRITE DIRECTORY ENTRY in SETUP outside a save replaces its entry, or deletes it when present is clear, clears
preflight-clean and aborts a preflight; every other entry, the cue store's tables, the matrix, the flash and the timing unit
stand. In SHOW it is LOCKED, during a save BUSY, and an entry that the capacity or the ranges do not allow is refused (R95,
R96). -/
def Obligations.DirectoryEntriesAreReplaced : Prop :=
  ∀ (tag clip : Nat) (d : DirectoryBody) (s : State), LinkOpen s →
    let blocks := (d.length * d.channels * 4 + 4095) / 4096
    let sound : Prop :=
      clip ≤ 255 ∧ d.present ≤ 1 ∧ (d.present = 1 → 1 ≤ d.channels ∧ d.channels ≤ 2 ∧ 1 ≤ d.length ∧ d.length < 2 ^ 28
        ∧ d.loopFlag ≤ 1 ∧ (d.loopFlag = 1 → d.loopStart < d.loopEnd ∧ d.loopEnd ≤ d.length)
        ∧ 1024 ≤ d.firstPage ∧ d.firstPage + 4 * blocks - 1 < s.cmc.capacity)
    (s.seq.showState = .inShow → Decided (.writeDirectoryEntry tag clip d) s 0x4B tag .locked [] (heard s))
    ∧ (s.seq.showState = .setup → saving s = true → Decided (.writeDirectoryEntry tag clip d) s 0x4B tag .busy [] (heard s))
    ∧ (s.seq.showState = .setup → saving s = false → ¬sound →
        Decided (.writeDirectoryEntry tag clip d) s 0x4B tag .outOfRange [] (heard s))
    ∧ (s.seq.showState = .setup → saving s = false → sound → sparseRising none s.cmc.directory = true →
        ∃ u, Decided (.writeDirectoryEntry tag clip d) s 0x4B tag .ok [] u
          ∧ clipEntry u clip = (if d.present = 1 then some
              { firstPage := d.firstPage, length := d.length, channels := d.channels
                loop := if d.loopFlag = 1 then some (d.loopStart, d.loopEnd) else none, crc := d.crc } else none)
          ∧ (∀ c, c ≠ clip → clipEntry u c = clipEntry s c)
          ∧ u.cst.clean = false ∧ u.cst.cues = s.cst.cues ∧ u.cst.snapshots = s.cst.snapshots
          ∧ (∀ v w, s.cmc.slot = some (.preflight v w) → u.cmc.slot = none ∧ u.cst.report.status = .aborted)
          ∧ u.cmc.flash = s.cmc.flash ∧ u.mix = s.mix ∧ u.fbg = s.fbg ∧ u.hsu = s.hsu ∧ u.tmu = s.tmu)

/-- The show file of a sound show passes the header, the CRC and the contents checks of a load, whatever follows it in the show
region, and reads back as that show (R105, R107). -/
def Obligations.SavedShowReadsBack : Prop :=
  ∀ (capacity : Nat) (d : ShowData), ShowSound capacity d →
    (showFile d).length ≤ 1048576
      ∧ (∀ tail : List Byte, examineHeader (showFile d ++ tail) = .inr (showFile d).length)
      ∧ fileCrcGood (showFile d) = true ∧ readShow capacity (showFile d) = some d

/-- A show load reads the header, then the file to check its CRC, then the file again to build the show from it, block by block;
a header that is not sound, a CRC that is not good, contents that are not, a failed read and one that
reaches its time limit end it. At its end a sound show
stands in place of the one before, or after a failure the empty show with every setting at its default; preflight-clean is
clear, the report empty, no snapshot recalled, the running-cue table empty, standby on the first eligible cue, the slot free,
the stored show VALID or INVALID, and OP_DONE tells (R45, R70, R107, R108).
After a start-up load snapshot 0 is applied to the levels; without one every master is 0, and that LOAD SHOW keeps the file's masters then is the
model's reading (R25; log entry 40). -/
def Obligations.LoadReplacesTheShow : Prop :=
  ∀ (startUp : Bool) (x : Transfer) (page : Nat) (s : State), s.cmc.transfer = some x → x.client = .link →
    x.wanted = true → x.extent = .blockRead page → 0 < s.cmc.capacity → s.cmc.capacity ≤ 1048576 →
    sparseRising (some 0) s.seq.entries = true → (∀ e ∈ s.seq.entries, e.1 ≤ 16) →
    sparseRising none s.rpu.zones = true → sparseRising none s.fbg.governors = true →
    sparseRising none s.tmu.lines = true → sparseRising none s.mix.masters = true →
    let data := (List.range 4096).map fun i => flashByte s.cmc.flash (1024 * page + i)
    let slot (phase : LoadPhase) : Prop := s.cmc.slot = some (.load startUp phase)
    let phase (p : LoadPhase) : Prop := ∃ u, exec (.transferComplete false .split) s = .next (settle u)
      ∧ u = s.withCmc { s.cmc with transfer := none, slot := some (.load startUp p) }
    let ends (i : Instr) (d : ShowData) (valid : Bool) (detail : List Byte) : Prop :=
      let bare := sparseFind d.snapshots 0 = none
      ∃ u, exec i s = .next (settle u)
        ∧ showNow u = (if startUp = true ∧ bare then { d with masters := List.replicate 25 0 } else d)
        ∧ u.cmc.slot = none ∧ u.cmc.transfer = none ∧ u.cmc.storedValid = valid ∧ u.cmc.flash = s.cmc.flash
        ∧ u.cst.clean = false ∧ u.cst.report = {} ∧ u.cst.lastRecalled = none ∧ u.cst.recalledSinceRead = false
        ∧ u.seq.entries = [] ∧ u.seq.standby = nextEligible u 0 ∧ u.seq.showState = s.seq.showState
        ∧ u.seq.lockout = s.seq.lockout ∧ u.tmu.clock = s.tmu.clock ∧ u.tmu.timers = s.tmu.timers
        ∧ u.hsu.holdRequest = s.hsu.holdRequest ∧ u.clink = s.clink
        ∧ (startUp = false ∨ bare → u.mix.levels = s.mix.levels)
        ∧ (startUp = true → ¬bare →
            u.mix.levels = (applyPreset (s.withCst { s.cst with snapshots := d.snapshots })).mix.levels)
        ∧ Recorded .opDone 0 detail s u
    let good : Instr := .transferComplete false .split
    let fails (i : Instr) (cause : Byte) : Prop := ends i ShowData.default false ([4, 1, cause] ++ bytesOf 4 0)
    (slot .header →
      (∀ length, examineHeader data = .inr length → phase (.check 0 length []))
      ∧ (examineHeader data = .inl .noShow → fails good 2)
      ∧ (examineHeader data = .inl .format → fails good 3))
    ∧ (∀ b length read, slot (.check b length read) →
      let all := (read ++ data).take length
      if b + 1 < (length + 4095) / 4096 then phase (.check (b + 1) length (read ++ data))
      else if fileCrcGood all = true then phase (.build 0 length []) else fails good 4)
    ∧ (∀ b length read, slot (.build b length read) →
      let all := (read ++ data).take length
      if b + 1 < (length + 4095) / 4096 then phase (.build (b + 1) length (read ++ data))
      else
        (readShow s.cmc.capacity all = none → fails good 3)
          ∧ ∀ d, readShow s.cmc.capacity all = some d → ShowSound s.cmc.capacity d →
              ends good d true ([4, 0, 0] ++ bytesOf 4 length))
    ∧ ∀ p, slot p → fails (.transferComplete true .split) 0
        ∧ (2 ≤ x.elapsed → fails (.transferTimeLimit .split) 0)

/-! ### Bounds that every step keeps -/

/-- The queues of the link keep their bounds, the event table its form, the flash its canonical form, and every duck stays between
its depth and 0 (R93, R129, R156, R178, R179, R183). -/
def Obligations.EveryStepKeepsQueuesEventsFlashAndDucks : Prop :=
  ∀ s t : State, step s = .next t →
    (LinkLaw s → LinkLaw t) ∧ (EventLaw s → EventLaw t) ∧ (FlashLaw s → FlashLaw t) ∧ (DuckLaw s → DuckLaw t)
      ∧ (ZoneDuckLaw s → ZoneDuckLaw t)

/-- The page queue keeps its order and bounds behind the active page, with at most one TALK page; every player's buffer and the
call voice's hold at most four blocks; standby stays NONE or on a cue of the list that it may stand on; and hold is effective
whenever show stop is active (R26, R47, R52, R72, R98, R133, R136, R144, R153). -/
def Obligations.EveryStepKeepsPagesBuffersStandbyAndHold : Prop :=
  ∀ s t : State, step s = .next t →
    (PageLaw s → PageLaw t) ∧ (BufferLaw s → BufferLaw t) ∧ (StandbyLaw s → StandbyLaw t) ∧ (HoldLaw s → HoldLaw t)
end

