-- ==== Sys2Proof/Laws/State.lean ====
section
/-!
SUPPORT. One lemma a field for each writer of State, so that no later proof unfolds a record update.
-/

namespace Sys2Proof.Machine

/-! ### withClink -/

@[simp] theorem State.withClink_clink (s : State) (x : Clink) : (s.withClink x).clink = x := rfl
@[simp] theorem State.withClink_evr (s : State) (x : Clink) : (s.withClink x).evr = s.evr := rfl
@[simp] theorem State.withClink_cst (s : State) (x : Clink) : (s.withClink x).cst = s.cst := rfl
@[simp] theorem State.withClink_seq (s : State) (x : Clink) : (s.withClink x).seq = s.seq := rfl
@[simp] theorem State.withClink_mix (s : State) (x : Clink) : (s.withClink x).mix = s.mix := rfl
@[simp] theorem State.withClink_ply (s : State) (x : Clink) : (s.withClink x).ply = s.ply := rfl
@[simp] theorem State.withClink_cmc (s : State) (x : Clink) : (s.withClink x).cmc = s.cmc := rfl
@[simp] theorem State.withClink_fbg (s : State) (x : Clink) : (s.withClink x).fbg = s.fbg := rfl
@[simp] theorem State.withClink_rpu (s : State) (x : Clink) : (s.withClink x).rpu = s.rpu := rfl
@[simp] theorem State.withClink_hsu (s : State) (x : Clink) : (s.withClink x).hsu = s.hsu := rfl
@[simp] theorem State.withClink_tmu (s : State) (x : Clink) : (s.withClink x).tmu = s.tmu := rfl
@[simp] theorem State.withClink_draws (s : State) (x : Clink) : (s.withClink x).draws = s.draws := rfl
@[simp] theorem State.withClink_pending (s : State) (x : Clink) : (s.withClink x).pending = s.pending := rfl

/-! ### withEvr -/

@[simp] theorem State.withEvr_clink (s : State) (x : Evr) : (s.withEvr x).clink = s.clink := rfl
@[simp] theorem State.withEvr_evr (s : State) (x : Evr) : (s.withEvr x).evr = x := rfl
@[simp] theorem State.withEvr_cst (s : State) (x : Evr) : (s.withEvr x).cst = s.cst := rfl
@[simp] theorem State.withEvr_seq (s : State) (x : Evr) : (s.withEvr x).seq = s.seq := rfl
@[simp] theorem State.withEvr_mix (s : State) (x : Evr) : (s.withEvr x).mix = s.mix := rfl
@[simp] theorem State.withEvr_ply (s : State) (x : Evr) : (s.withEvr x).ply = s.ply := rfl
@[simp] theorem State.withEvr_cmc (s : State) (x : Evr) : (s.withEvr x).cmc = s.cmc := rfl
@[simp] theorem State.withEvr_fbg (s : State) (x : Evr) : (s.withEvr x).fbg = s.fbg := rfl
@[simp] theorem State.withEvr_rpu (s : State) (x : Evr) : (s.withEvr x).rpu = s.rpu := rfl
@[simp] theorem State.withEvr_hsu (s : State) (x : Evr) : (s.withEvr x).hsu = s.hsu := rfl
@[simp] theorem State.withEvr_tmu (s : State) (x : Evr) : (s.withEvr x).tmu = s.tmu := rfl
@[simp] theorem State.withEvr_draws (s : State) (x : Evr) : (s.withEvr x).draws = s.draws := rfl
@[simp] theorem State.withEvr_pending (s : State) (x : Evr) : (s.withEvr x).pending = s.pending := rfl

/-! ### withCst -/

@[simp] theorem State.withCst_clink (s : State) (x : Cst) : (s.withCst x).clink = s.clink := rfl
@[simp] theorem State.withCst_evr (s : State) (x : Cst) : (s.withCst x).evr = s.evr := rfl
@[simp] theorem State.withCst_cst (s : State) (x : Cst) : (s.withCst x).cst = x := rfl
@[simp] theorem State.withCst_seq (s : State) (x : Cst) : (s.withCst x).seq = s.seq := rfl
@[simp] theorem State.withCst_mix (s : State) (x : Cst) : (s.withCst x).mix = s.mix := rfl
@[simp] theorem State.withCst_ply (s : State) (x : Cst) : (s.withCst x).ply = s.ply := rfl
@[simp] theorem State.withCst_cmc (s : State) (x : Cst) : (s.withCst x).cmc = s.cmc := rfl
@[simp] theorem State.withCst_fbg (s : State) (x : Cst) : (s.withCst x).fbg = s.fbg := rfl
@[simp] theorem State.withCst_rpu (s : State) (x : Cst) : (s.withCst x).rpu = s.rpu := rfl
@[simp] theorem State.withCst_hsu (s : State) (x : Cst) : (s.withCst x).hsu = s.hsu := rfl
@[simp] theorem State.withCst_tmu (s : State) (x : Cst) : (s.withCst x).tmu = s.tmu := rfl
@[simp] theorem State.withCst_draws (s : State) (x : Cst) : (s.withCst x).draws = s.draws := rfl
@[simp] theorem State.withCst_pending (s : State) (x : Cst) : (s.withCst x).pending = s.pending := rfl

/-! ### withSeq -/

@[simp] theorem State.withSeq_clink (s : State) (x : Seq) : (s.withSeq x).clink = s.clink := rfl
@[simp] theorem State.withSeq_evr (s : State) (x : Seq) : (s.withSeq x).evr = s.evr := rfl
@[simp] theorem State.withSeq_cst (s : State) (x : Seq) : (s.withSeq x).cst = s.cst := rfl
@[simp] theorem State.withSeq_seq (s : State) (x : Seq) : (s.withSeq x).seq = x := rfl
@[simp] theorem State.withSeq_mix (s : State) (x : Seq) : (s.withSeq x).mix = s.mix := rfl
@[simp] theorem State.withSeq_ply (s : State) (x : Seq) : (s.withSeq x).ply = s.ply := rfl
@[simp] theorem State.withSeq_cmc (s : State) (x : Seq) : (s.withSeq x).cmc = s.cmc := rfl
@[simp] theorem State.withSeq_fbg (s : State) (x : Seq) : (s.withSeq x).fbg = s.fbg := rfl
@[simp] theorem State.withSeq_rpu (s : State) (x : Seq) : (s.withSeq x).rpu = s.rpu := rfl
@[simp] theorem State.withSeq_hsu (s : State) (x : Seq) : (s.withSeq x).hsu = s.hsu := rfl
@[simp] theorem State.withSeq_tmu (s : State) (x : Seq) : (s.withSeq x).tmu = s.tmu := rfl
@[simp] theorem State.withSeq_draws (s : State) (x : Seq) : (s.withSeq x).draws = s.draws := rfl
@[simp] theorem State.withSeq_pending (s : State) (x : Seq) : (s.withSeq x).pending = s.pending := rfl

/-! ### withMix -/

@[simp] theorem State.withMix_clink (s : State) (x : Mix) : (s.withMix x).clink = s.clink := rfl
@[simp] theorem State.withMix_evr (s : State) (x : Mix) : (s.withMix x).evr = s.evr := rfl
@[simp] theorem State.withMix_cst (s : State) (x : Mix) : (s.withMix x).cst = s.cst := rfl
@[simp] theorem State.withMix_seq (s : State) (x : Mix) : (s.withMix x).seq = s.seq := rfl
@[simp] theorem State.withMix_mix (s : State) (x : Mix) : (s.withMix x).mix = x := rfl
@[simp] theorem State.withMix_ply (s : State) (x : Mix) : (s.withMix x).ply = s.ply := rfl
@[simp] theorem State.withMix_cmc (s : State) (x : Mix) : (s.withMix x).cmc = s.cmc := rfl
@[simp] theorem State.withMix_fbg (s : State) (x : Mix) : (s.withMix x).fbg = s.fbg := rfl
@[simp] theorem State.withMix_rpu (s : State) (x : Mix) : (s.withMix x).rpu = s.rpu := rfl
@[simp] theorem State.withMix_hsu (s : State) (x : Mix) : (s.withMix x).hsu = s.hsu := rfl
@[simp] theorem State.withMix_tmu (s : State) (x : Mix) : (s.withMix x).tmu = s.tmu := rfl
@[simp] theorem State.withMix_draws (s : State) (x : Mix) : (s.withMix x).draws = s.draws := rfl
@[simp] theorem State.withMix_pending (s : State) (x : Mix) : (s.withMix x).pending = s.pending := rfl

/-! ### withPly -/

@[simp] theorem State.withPly_clink (s : State) (x : Ply) : (s.withPly x).clink = s.clink := rfl
@[simp] theorem State.withPly_evr (s : State) (x : Ply) : (s.withPly x).evr = s.evr := rfl
@[simp] theorem State.withPly_cst (s : State) (x : Ply) : (s.withPly x).cst = s.cst := rfl
@[simp] theorem State.withPly_seq (s : State) (x : Ply) : (s.withPly x).seq = s.seq := rfl
@[simp] theorem State.withPly_mix (s : State) (x : Ply) : (s.withPly x).mix = s.mix := rfl
@[simp] theorem State.withPly_ply (s : State) (x : Ply) : (s.withPly x).ply = x := rfl
@[simp] theorem State.withPly_cmc (s : State) (x : Ply) : (s.withPly x).cmc = s.cmc := rfl
@[simp] theorem State.withPly_fbg (s : State) (x : Ply) : (s.withPly x).fbg = s.fbg := rfl
@[simp] theorem State.withPly_rpu (s : State) (x : Ply) : (s.withPly x).rpu = s.rpu := rfl
@[simp] theorem State.withPly_hsu (s : State) (x : Ply) : (s.withPly x).hsu = s.hsu := rfl
@[simp] theorem State.withPly_tmu (s : State) (x : Ply) : (s.withPly x).tmu = s.tmu := rfl
@[simp] theorem State.withPly_draws (s : State) (x : Ply) : (s.withPly x).draws = s.draws := rfl
@[simp] theorem State.withPly_pending (s : State) (x : Ply) : (s.withPly x).pending = s.pending := rfl

/-! ### withCmc -/

@[simp] theorem State.withCmc_clink (s : State) (x : Cmc) : (s.withCmc x).clink = s.clink := rfl
@[simp] theorem State.withCmc_evr (s : State) (x : Cmc) : (s.withCmc x).evr = s.evr := rfl
@[simp] theorem State.withCmc_cst (s : State) (x : Cmc) : (s.withCmc x).cst = s.cst := rfl
@[simp] theorem State.withCmc_seq (s : State) (x : Cmc) : (s.withCmc x).seq = s.seq := rfl
@[simp] theorem State.withCmc_mix (s : State) (x : Cmc) : (s.withCmc x).mix = s.mix := rfl
@[simp] theorem State.withCmc_ply (s : State) (x : Cmc) : (s.withCmc x).ply = s.ply := rfl
@[simp] theorem State.withCmc_cmc (s : State) (x : Cmc) : (s.withCmc x).cmc = x := rfl
@[simp] theorem State.withCmc_fbg (s : State) (x : Cmc) : (s.withCmc x).fbg = s.fbg := rfl
@[simp] theorem State.withCmc_rpu (s : State) (x : Cmc) : (s.withCmc x).rpu = s.rpu := rfl
@[simp] theorem State.withCmc_hsu (s : State) (x : Cmc) : (s.withCmc x).hsu = s.hsu := rfl
@[simp] theorem State.withCmc_tmu (s : State) (x : Cmc) : (s.withCmc x).tmu = s.tmu := rfl
@[simp] theorem State.withCmc_draws (s : State) (x : Cmc) : (s.withCmc x).draws = s.draws := rfl
@[simp] theorem State.withCmc_pending (s : State) (x : Cmc) : (s.withCmc x).pending = s.pending := rfl

/-! ### withFbg -/

@[simp] theorem State.withFbg_clink (s : State) (x : Fbg) : (s.withFbg x).clink = s.clink := rfl
@[simp] theorem State.withFbg_evr (s : State) (x : Fbg) : (s.withFbg x).evr = s.evr := rfl
@[simp] theorem State.withFbg_cst (s : State) (x : Fbg) : (s.withFbg x).cst = s.cst := rfl
@[simp] theorem State.withFbg_seq (s : State) (x : Fbg) : (s.withFbg x).seq = s.seq := rfl
@[simp] theorem State.withFbg_mix (s : State) (x : Fbg) : (s.withFbg x).mix = s.mix := rfl
@[simp] theorem State.withFbg_ply (s : State) (x : Fbg) : (s.withFbg x).ply = s.ply := rfl
@[simp] theorem State.withFbg_cmc (s : State) (x : Fbg) : (s.withFbg x).cmc = s.cmc := rfl
@[simp] theorem State.withFbg_fbg (s : State) (x : Fbg) : (s.withFbg x).fbg = x := rfl
@[simp] theorem State.withFbg_rpu (s : State) (x : Fbg) : (s.withFbg x).rpu = s.rpu := rfl
@[simp] theorem State.withFbg_hsu (s : State) (x : Fbg) : (s.withFbg x).hsu = s.hsu := rfl
@[simp] theorem State.withFbg_tmu (s : State) (x : Fbg) : (s.withFbg x).tmu = s.tmu := rfl
@[simp] theorem State.withFbg_draws (s : State) (x : Fbg) : (s.withFbg x).draws = s.draws := rfl
@[simp] theorem State.withFbg_pending (s : State) (x : Fbg) : (s.withFbg x).pending = s.pending := rfl

/-! ### withRpu -/

@[simp] theorem State.withRpu_clink (s : State) (x : Rpu) : (s.withRpu x).clink = s.clink := rfl
@[simp] theorem State.withRpu_evr (s : State) (x : Rpu) : (s.withRpu x).evr = s.evr := rfl
@[simp] theorem State.withRpu_cst (s : State) (x : Rpu) : (s.withRpu x).cst = s.cst := rfl
@[simp] theorem State.withRpu_seq (s : State) (x : Rpu) : (s.withRpu x).seq = s.seq := rfl
@[simp] theorem State.withRpu_mix (s : State) (x : Rpu) : (s.withRpu x).mix = s.mix := rfl
@[simp] theorem State.withRpu_ply (s : State) (x : Rpu) : (s.withRpu x).ply = s.ply := rfl
@[simp] theorem State.withRpu_cmc (s : State) (x : Rpu) : (s.withRpu x).cmc = s.cmc := rfl
@[simp] theorem State.withRpu_fbg (s : State) (x : Rpu) : (s.withRpu x).fbg = s.fbg := rfl
@[simp] theorem State.withRpu_rpu (s : State) (x : Rpu) : (s.withRpu x).rpu = x := rfl
@[simp] theorem State.withRpu_hsu (s : State) (x : Rpu) : (s.withRpu x).hsu = s.hsu := rfl
@[simp] theorem State.withRpu_tmu (s : State) (x : Rpu) : (s.withRpu x).tmu = s.tmu := rfl
@[simp] theorem State.withRpu_draws (s : State) (x : Rpu) : (s.withRpu x).draws = s.draws := rfl
@[simp] theorem State.withRpu_pending (s : State) (x : Rpu) : (s.withRpu x).pending = s.pending := rfl

/-! ### withHsu -/

@[simp] theorem State.withHsu_clink (s : State) (x : Hsu) : (s.withHsu x).clink = s.clink := rfl
@[simp] theorem State.withHsu_evr (s : State) (x : Hsu) : (s.withHsu x).evr = s.evr := rfl
@[simp] theorem State.withHsu_cst (s : State) (x : Hsu) : (s.withHsu x).cst = s.cst := rfl
@[simp] theorem State.withHsu_seq (s : State) (x : Hsu) : (s.withHsu x).seq = s.seq := rfl
@[simp] theorem State.withHsu_mix (s : State) (x : Hsu) : (s.withHsu x).mix = s.mix := rfl
@[simp] theorem State.withHsu_ply (s : State) (x : Hsu) : (s.withHsu x).ply = s.ply := rfl
@[simp] theorem State.withHsu_cmc (s : State) (x : Hsu) : (s.withHsu x).cmc = s.cmc := rfl
@[simp] theorem State.withHsu_fbg (s : State) (x : Hsu) : (s.withHsu x).fbg = s.fbg := rfl
@[simp] theorem State.withHsu_rpu (s : State) (x : Hsu) : (s.withHsu x).rpu = s.rpu := rfl
@[simp] theorem State.withHsu_hsu (s : State) (x : Hsu) : (s.withHsu x).hsu = x := rfl
@[simp] theorem State.withHsu_tmu (s : State) (x : Hsu) : (s.withHsu x).tmu = s.tmu := rfl
@[simp] theorem State.withHsu_draws (s : State) (x : Hsu) : (s.withHsu x).draws = s.draws := rfl
@[simp] theorem State.withHsu_pending (s : State) (x : Hsu) : (s.withHsu x).pending = s.pending := rfl

/-! ### withTmu -/

@[simp] theorem State.withTmu_clink (s : State) (x : Tmu) : (s.withTmu x).clink = s.clink := rfl
@[simp] theorem State.withTmu_evr (s : State) (x : Tmu) : (s.withTmu x).evr = s.evr := rfl
@[simp] theorem State.withTmu_cst (s : State) (x : Tmu) : (s.withTmu x).cst = s.cst := rfl
@[simp] theorem State.withTmu_seq (s : State) (x : Tmu) : (s.withTmu x).seq = s.seq := rfl
@[simp] theorem State.withTmu_mix (s : State) (x : Tmu) : (s.withTmu x).mix = s.mix := rfl
@[simp] theorem State.withTmu_ply (s : State) (x : Tmu) : (s.withTmu x).ply = s.ply := rfl
@[simp] theorem State.withTmu_cmc (s : State) (x : Tmu) : (s.withTmu x).cmc = s.cmc := rfl
@[simp] theorem State.withTmu_fbg (s : State) (x : Tmu) : (s.withTmu x).fbg = s.fbg := rfl
@[simp] theorem State.withTmu_rpu (s : State) (x : Tmu) : (s.withTmu x).rpu = s.rpu := rfl
@[simp] theorem State.withTmu_hsu (s : State) (x : Tmu) : (s.withTmu x).hsu = s.hsu := rfl
@[simp] theorem State.withTmu_tmu (s : State) (x : Tmu) : (s.withTmu x).tmu = x := rfl
@[simp] theorem State.withTmu_draws (s : State) (x : Tmu) : (s.withTmu x).draws = s.draws := rfl
@[simp] theorem State.withTmu_pending (s : State) (x : Tmu) : (s.withTmu x).pending = s.pending := rfl

/-! ### withQueue -/

@[simp] theorem State.withQueue_clink (s : State) (q : List Instr) : (s.withQueue q).clink = s.clink := rfl
@[simp] theorem State.withQueue_evr (s : State) (q : List Instr) : (s.withQueue q).evr = s.evr := rfl
@[simp] theorem State.withQueue_cst (s : State) (q : List Instr) : (s.withQueue q).cst = s.cst := rfl
@[simp] theorem State.withQueue_seq (s : State) (q : List Instr) : (s.withQueue q).seq = s.seq := rfl
@[simp] theorem State.withQueue_mix (s : State) (q : List Instr) : (s.withQueue q).mix = s.mix := rfl
@[simp] theorem State.withQueue_ply (s : State) (q : List Instr) : (s.withQueue q).ply = s.ply := rfl
@[simp] theorem State.withQueue_cmc (s : State) (q : List Instr) : (s.withQueue q).cmc = s.cmc := rfl
@[simp] theorem State.withQueue_fbg (s : State) (q : List Instr) : (s.withQueue q).fbg = s.fbg := rfl
@[simp] theorem State.withQueue_rpu (s : State) (q : List Instr) : (s.withQueue q).rpu = s.rpu := rfl
@[simp] theorem State.withQueue_hsu (s : State) (q : List Instr) : (s.withQueue q).hsu = s.hsu := rfl
@[simp] theorem State.withQueue_tmu (s : State) (q : List Instr) : (s.withQueue q).tmu = s.tmu := rfl
@[simp] theorem State.withQueue_draws (s : State) (q : List Instr) : (s.withQueue q).draws = s.draws := rfl
@[simp] theorem State.withQueue_pending (s : State) (q : List Instr) : (s.withQueue q).pending = q := rfl

end Sys2Proof.Machine
end

