-- ==== Sys2Proof/Laws/Still.lean ====
section
/-!
SUPPORT. What the engines of the part leave alone. `State.still` gathers the fields that only a request, a reset, the control
link, a memory transfer or the clock writes; one lemma for each shared operation says that it keeps them all.
-/

namespace Sys2Proof.Machine

/-- The fields that the engines' shared operations never write. -/
structure Still where
  pending : List Instr
  draws : Nat
  clink : Clink
  capacity : Nat
  flash : List Host.Cell
  directory : Sparse DirEntry
  clock : BitVec 32
  mask : BitVec 18
  cues : List Cue
  snapshots : Sparse (List SnapEntry)
  showState : ShowState
  skipCut : Bool
  lockoutSetting : Nat
  masters : Sparse Level
  holdTime : Nat
  paging : PagingSettings
  stop : StopSettings
  holdEffective : Bool
  stopActive : Bool
  holdRequest : Bool
  stopRequest : Bool

/-- The fields of a state that the engines' shared operations never write. -/
def State.still (s : State) : Still where
  pending := s.pending
  draws := s.draws
  clink := s.clink
  capacity := s.cmc.capacity
  flash := s.cmc.flash
  directory := s.cmc.directory
  clock := s.tmu.clock
  mask := s.evr.mask
  cues := s.cst.cues
  snapshots := s.cst.snapshots
  showState := s.seq.showState
  skipCut := s.seq.skipCut
  lockoutSetting := s.seq.lockoutSetting
  masters := s.mix.masters
  holdTime := s.ply.holdTime
  paging := s.rpu.settings
  stop := s.hsu.settings
  holdEffective := s.hsu.holdEffective
  stopActive := s.hsu.stopActive
  holdRequest := s.hsu.holdRequest
  stopRequest := s.hsu.stopRequest

/-! ### Iteration -/

theorem forEach_still {f : Nat → State → State} (h : ∀ n s, (f n s).still = s.still) (first count : Nat) (s : State) :
    (forEach first count f s).still = s.still := by
  induction count generalizing first s with
  | zero => rfl
  | succ c ih => simp [forEach, ih, h]

theorem eachZone_still {f : Nat → State → State} (h : ∀ n s, (f n s).still = s.still) (l : List Nat) (s : State) :
    (eachZone f l s).still = s.still := by
  induction l generalizing s with
  | nil => rfl
  | cons a l ih => simp [eachZone, ih, h]

/-! ### Records -/

@[simp] theorem setLevel_still (a b : Nat) (x : Level) (s : State) : (setLevel a b x s).still = s.still := rfl
@[simp] theorem setPlayerRecord_still (n : Nat) (p : Player) (s : State) :
    (setPlayerRecord n p s).still = s.still := rfl
@[simp] theorem setGovernorRecord_still (n : Nat) (g : Governor) (s : State) :
    (setGovernorRecord n g s).still = s.still := rfl
@[simp] theorem setZoneRecord_still (n : Nat) (z : Zone) (s : State) : (setZoneRecord n z s).still = s.still := rfl
@[simp] theorem setInjection_still (n : Nat) (i : Injection) (s : State) : (setInjection n i s).still = s.still := rfl
@[simp] theorem setLineRecord_still (n : Nat) (l : Line) (s : State) : (setLineRecord n l s).still = s.still := rfl
@[simp] theorem setTimerRecord_still (n : Nat) (t : Timer) (s : State) : (setTimerRecord n t s).still = s.still := rfl
@[simp] theorem setEntry_still (n : Nat) (e : Option Entry) (s : State) : (setEntry n e s).still = s.still := rfl
@[simp] theorem setFadeSlot_still (n : Nat) (f : Option FadeSlot) (s : State) :
    (setFadeSlot n f s).still = s.still := rfl
@[simp] theorem withFbg_still (f : Fbg) (s : State) : (s.withFbg f).still = s.still := rfl

@[simp] theorem reportComplete_still (o : Owner) (s : State) : (reportComplete o s).still = s.still := by
  unfold reportComplete; split
  · rfl
  · split <;> simp

@[simp] theorem tell_still (o : Option Owner) (s : State) : (tell o s).still = s.still := by
  cases o <;> simp [tell]

@[simp] theorem discardTransfer_still (c : Client) (s : State) : (discardTransfer c s).still = s.still := by
  unfold discardTransfer; split
  · rfl
  · split <;> rfl

@[simp] theorem raiseEvent_still (k : EventKind) (n : Nat) (d : List Byte) (s : State) :
    (raiseEvent k n d s).still = s.still := by
  unfold raiseEvent; split <;> rfl

@[simp] theorem raisePlaybackFault_still (a b c d : Nat) (s : State) :
    (raisePlaybackFault a b c d s).still = s.still := raiseEvent_still ..

@[simp] theorem raiseUnderrun_still (a b c : Nat) (s : State) : (raiseUnderrun a b c s).still = s.still :=
  raiseEvent_still ..

/-! ### Governors -/

@[simp] theorem refreshFreeze_still (n : Nat) (s : State) : (refreshFreeze n s).still = s.still := rfl

@[simp] theorem refreshFreezeOfBus_still (b : Nat) (s : State) : (refreshFreezeOfBus b s).still = s.still := by
  unfold refreshFreezeOfBus; split <;> simp

@[simp] theorem refreshAllFreezes_still (s : State) : (refreshAllFreezes s).still = s.still :=
  forEach_still refreshFreeze_still ..

@[simp] theorem storeJudged_still (n : Nat) (m : Level) (g : Governor) (s : State) :
    (storeJudged n m g s).still = s.still := by
  unfold storeJudged raiseGovAlert; split <;> simp

@[simp] theorem afterCeiling_still (n : Nat) (st : GovState) (m : Level) (g : Governor) (s : State) :
    (afterCeiling n st m g s).still = s.still := by
  unfold afterCeiling; split <;> (try split) <;> simp

@[simp] theorem judgeHunting_still (n : Nat) (m : Level) (g : Governor) (s : State) :
    (judgeHunting n m g s).still = s.still := by
  unfold judgeHunting; dsimp only; split
  · split <;> simp
  · simp

@[simp] theorem judgeConverged_still (n : Nat) (m : Level) (g : Governor) (s : State) :
    (judgeConverged n m g s).still = s.still := by
  unfold judgeConverged; dsimp only; split <;> simp

@[simp] theorem judgeIn_still (n : Nat) (st : GovState) (m : Level) (g : Governor) (s : State) :
    (judgeIn n st m g s).still = s.still := by
  unfold judgeIn; split <;> simp

@[simp] theorem judgeWindow_still (n : Nat) (m : Level) (s : State) : (judgeWindow n m s).still = s.still := by
  unfold judgeWindow raiseGovAlert; dsimp only
  repeat' split
  all_goals simp

@[simp] theorem windowEnd_still (s : State) : (windowEnd s).still = s.still := by
  unfold windowEnd; simp [forEach_still]

@[simp] theorem governAction_still (n : Nat) (x : Level) (s : State) : (governAction n x s).still = s.still := by
  unfold governAction; dsimp only; split <;> simp

@[simp] theorem applyGovSettings_still (n : Nat) (g : GovSettings) (s : State) :
    (applyGovSettings n g s).still = s.still := rfl
@[simp] theorem restartGovernor_still (n : Nat) (s : State) : (restartGovernor n s).still = s.still := rfl
@[simp] theorem resetGovernor_still (n : Nat) (s : State) : (resetGovernor n s).still = s.still := rfl

/-! ### The matrix -/

@[simp] theorem tellFadeOwner_still (k : Nat) (o : FadeOwner) (s : State) : (tellFadeOwner k o s).still = s.still := by
  unfold tellFadeOwner; split
  · rfl
  · simp
  · split <;> simp

@[simp] theorem endFadeSlot_still (k n : Nat) (f : FadeSlot) (s : State) :
    (endFadeSlot k n f s).still = s.still := by simp [endFadeSlot]

@[simp] theorem fillFadeSlot_still (n : Nat) (f : FadeSlot) (s : State) : (fillFadeSlot n f s).still = s.still := by
  simp [fillFadeSlot]

@[simp] theorem stealFadeSlot_still (k n : Nat) (f : FadeSlot) (s : State) :
    (stealFadeSlot k n f s).still = s.still := by simp [stealFadeSlot]

@[simp] theorem placeFade_still (k : Nat) (f : FadeSlot) (s : State) : (placeFade k f s).still = s.still := by
  unfold placeFade; split
  · simp
  · split <;> simp

@[simp] theorem fadeRequest_still (k a b : Nat) (x : Level) (d : Nat) (o : FadeOwner) (s : State) :
    (fadeRequest k a b x d o s).still = s.still := by
  unfold fadeRequest; dsimp only; split
  · split <;> simp
  · split <;> simp

@[simp] theorem setUntimed_still (a b : Nat) (x : Level) (s : State) : (setUntimed a b x s).still = s.still := by
  unfold setUntimed; split <;> simp

@[simp] theorem takeEntries_still (k d : Nat) (o : Option Owner) (l : List SnapEntry) (s : State) :
    (takeEntries k d o l s).still = s.still := by
  induction l generalizing s with
  | nil => rfl
  | cons e l ih => simp [takeEntries, ih]

@[simp] theorem recallStatus_still (a b : Nat) (s : State) : (recallStatus a b s).still = s.still := rfl

@[simp] theorem withMix_still (m : Mix) (s : State) (h : m.masters = s.mix.masters) :
    (s.withMix m).still = s.still := by simp [State.still, h]

@[simp] theorem recallSnapshot_still (a d : Nat) (o : Owner) (s : State) :
    (recallSnapshot a d o s).still = s.still := by
  unfold recallSnapshot; dsimp only; split
  · simp
  · split <;> simp

@[simp] theorem releaseFades_still (n : Nat) (s : State) : (releaseFades n s).still = s.still := rfl

@[simp] theorem applyEntries_still (l : List SnapEntry) (s : State) : (applyEntries l s).still = s.still := by
  induction l generalizing s with
  | nil => rfl
  | cons e l ih => simp [applyEntries, ih]

@[simp] theorem applyPreset_still (s : State) : (applyPreset s).still = s.still := by
  unfold applyPreset; split <;> simp

@[simp] theorem resetMatrix_still (s : State) : (resetMatrix s).still = s.still := by simp [resetMatrix]

@[simp] theorem writeFadeLevels_still (l : Sparse FadeSlot) (s : State) : (writeFadeLevels l s).still = s.still := by
  induction l generalizing s with
  | nil => rfl
  | cons e l ih => simp [writeFadeLevels, ih]

@[simp] theorem advanceFades_still (s : State) : (advanceFades s).still = s.still := by simp [advanceFades]

@[simp] theorem endFade_still (n : Nat) (s : State) : (endFade n s).still = s.still := by
  unfold endFade; split
  · rfl
  · split <;> simp

@[simp] theorem endFades_still (s : State) : (endFades s).still = s.still := forEach_still endFade_still ..

@[simp] theorem formGainCodes_still (s : State) : (formGainCodes s).still = s.still := rfl

@[simp] theorem matrixBoundary_still (k : Taking) (s : State) : (matrixBoundary k s).still = s.still := by
  unfold matrixBoundary; dsimp only; cases k <;> dsimp only <;> split <;> simp

/-! ### The players -/

@[simp] theorem setPlayerAnew_still (n : Nat) (p : Player) (s : State) : (setPlayerAnew n p s).still = s.still := by
  simp [setPlayerAnew]

@[simp] theorem idlePlayer_still (n : Nat) (s : State) : (idlePlayer n s).still = s.still := by simp [idlePlayer]

@[simp] theorem startPlay_still (n : Nat) (p : Play) (s : State) : (startPlay n p s).still = s.still := by
  unfold startPlay; dsimp only; split
  · rfl
  · split <;> simp

@[simp] theorem playStart_still (n : Nat) (s : State) : (playStart n s).still = s.still := by
  unfold playStart; split
  · rfl
  · split <;> simp

@[simp] theorem retrigger_still (n : Nat) (p : Play) (s : State) : (retrigger n p s).still = s.still := by
  simp [retrigger]

@[simp] theorem playTaken_still (n : Nat) (p : Play) (e : DirEntry) (s : State) :
    (playTaken n p e s).still = s.still := by
  unfold playTaken; dsimp only; split <;> (try simp) <;> split <;> (try simp) <;> split <;> simp

@[simp] theorem playAction_still (n : Nat) (p : Play) (s : State) : (playAction n p s).still = s.still := by
  unfold playAction; split <;> simp

@[simp] theorem holdClip_still (n c : Nat) (e : DirEntry) (s : State) : (holdClip n c e s).still = s.still := by
  unfold holdClip; split <;> simp

@[simp] theorem finishPlay_still (n : Nat) (s : State) : (finishPlay n s).still = s.still := by
  unfold finishPlay; dsimp only; split <;> simp

@[simp] theorem playEnd_still (n : Nat) (s : State) : (playEnd n s).still = s.still := by
  unfold playEnd; split <;> simp

@[simp] theorem retriggerTailEnd_still (n : Nat) (s : State) : (retriggerTailEnd n s).still = s.still := by
  unfold retriggerTailEnd; dsimp only; split
  · split <;> (try split) <;> simp
  · rfl

@[simp] theorem holdTimerExpiry_still (n : Nat) (s : State) : (holdTimerExpiry n s).still = s.still := by
  unfold holdTimerExpiry; split <;> simp

@[simp] theorem releasePlayer_still (n d : Nat) (st : PlayerState) (s : State) :
    (releasePlayer n d st s).still = s.still := by
  unfold releasePlayer; dsimp only; split <;> simp

@[simp] theorem stopPlayer_still (n d : Nat) (s : State) : (stopPlayer n d s).still = s.still := by
  unfold stopPlayer; dsimp only; split <;> simp

@[simp] theorem leaveStandby_still (c : Option CueNumber) (f : Bool) (s : State) :
    (leaveStandby c f s).still = s.still := by
  unfold leaveStandby; split
  · rfl
  · refine forEach_still (fun n t => ?_) ..
    unfold leaveStandbyOn; dsimp only; split <;> simp

@[simp] theorem entryEnded_still (c : CueNumber) (s : State) : (entryEnded c s).still = s.still := by
  refine forEach_still (fun n t => ?_) ..
  unfold entryEndedOn; dsimp only; split <;> simp

@[simp] theorem preloadPlayer_still (c : CueNumber) (n k : Nat) (e : DirEntry) (s : State) :
    (preloadPlayer c n k e s).still = s.still := by
  unfold preloadPlayer; dsimp only
  repeat' split
  all_goals simp

@[simp] theorem preloadActions_still (c : CueNumber) (l : List Action) (named : List Nat) (s : State) :
    (preloadActions c named l s).still = s.still := by
  induction l generalizing named s with
  | nil => rfl
  | cons a l ih =>
    unfold preloadActions; split
    · split
      · exact ih ..
      · rw [ih]; split <;> simp
    · exact ih ..

@[simp] theorem becomeStandby_still (c : Option CueNumber) (s : State) : (becomeStandby c s).still = s.still := by
  unfold becomeStandby; split <;> simp

@[simp] theorem standbyChanged_still (a : Option CueNumber) (f : Bool) (b : Option CueNumber) (s : State) :
    (standbyChanged a f b s).still = s.still := by simp [standbyChanged]

@[simp] theorem releasePlays_still (n : Nat) (s : State) : (releasePlays n s).still = s.still := by
  unfold releasePlays; exact forEach_still (f := releasePlaysOn n) (fun _ _ => rfl) ..

@[simp] theorem directoryChangedOn_still (n : Nat) (s : State) : (directoryChangedOn n s).still = s.still := by
  unfold directoryChangedOn; dsimp only; split
  · rfl
  · split
    · split <;> simp
    · rfl

@[simp] theorem directoryChanged_still (c : Nat) (s : State) : (directoryChanged c s).still = s.still := by
  unfold directoryChanged
  refine forEach_still (fun n t => ?_) ..
  split <;> simp

@[simp] theorem resetPlayers_still (s : State) : (resetPlayers s).still = s.still :=
  forEach_still (fun _ _ => by simp [resetPlayer]) ..

@[simp] theorem playerBlock_still (n k : Nat) (d : Option (List Byte)) (s : State) :
    (playerBlock n k d s).still = s.still := by
  unfold playerBlock; dsimp only; split
  · rfl
  · split <;> simp

@[simp] theorem samplePlayer_still (n : Nat) (s : State) : (samplePlayer n s).2.still = s.still := by
  have turn : (turnPlayer n s).still = s.still := by
    unfold turnPlayer; dsimp only
    repeat' split
    all_goals simp
  have sound : ∀ t, (soundPlayer n t).2.still = t.still := by
    intro t; unfold soundPlayer; dsimp only
    repeat' split
    all_goals simp
  rw [samplePlayer, sound, turn]

@[simp] theorem playersBoundary_still (k : Taking) (s : State) : (playersBoundary k s).still = s.still := by
  have h : ∀ n t, (playerBoundary n t).still = t.still := fun n t => rfl
  unfold playersBoundary; dsimp only; split
  · rw [forEach_still (fun n t => by simp [settlePlayer]), forEach_still h]
  · rw [forEach_still h]

@[simp] theorem formEnvelopeCodes_still (s : State) : (formEnvelopeCodes s).still = s.still := by
  unfold formEnvelopeCodes; exact forEach_still (f := formEnvelopeCode) (fun _ _ => rfl) ..

/-! ### The relay and paging unit -/

theorem withRpu_still (r : Rpu) (s : State) (h : r.settings = s.rpu.settings) : (s.withRpu r).still = s.still := by
  simp [State.still, h]

@[simp] theorem setQueue_still (q : List Page) (s : State) : (setQueue q s).still = s.still := rfl
@[simp] theorem setActive_still (a : Option ActivePage) (s : State) : (setActive a s).still = s.still := rfl
@[simp] theorem zoneJoins_still (b : Bool) (n : Nat) (s : State) : (zoneJoins b n s).still = s.still := rfl
@[simp] theorem zoneLeaves_still (n : Nat) (s : State) : (zoneLeaves n s).still = s.still := rfl
@[simp] theorem setVoice_still (v : Voice) (s : State) : (setVoice v s).still = s.still := rfl

@[simp] theorem joins_still (b : Bool) (l : List Nat) (s : State) : (eachZone (zoneJoins b) l s).still = s.still :=
  eachZone_still (f := zoneJoins b) (fun _ _ => rfl) ..
@[simp] theorem leaves_still (l : List Nat) (s : State) : (eachZone zoneLeaves l s).still = s.still :=
  eachZone_still zoneLeaves_still ..
@[simp] theorem handedOver_still (l : List Nat) (s : State) : (eachZone zoneHandedOver l s).still = s.still :=
  eachZone_still (f := zoneHandedOver) (fun _ _ => rfl) ..
@[simp] theorem paged_still (l : List Nat) (s : State) : (eachZone zonePaged l s).still = s.still :=
  eachZone_still (f := zonePaged) (fun _ _ => rfl) ..

@[simp] theorem idleVoice_still (s : State) : (idleVoice s).still = s.still := by simp [idleVoice]
@[simp] theorem loadVoice_still (a b : Nat) (e : DirEntry) (s : State) : (loadVoice a b e s).still = s.still := by
  simp [loadVoice]

@[simp] theorem callVoiceStart_still (s : State) : (callVoiceStart s).still = s.still := by
  unfold callVoiceStart; split <;> simp

@[simp] theorem raiseDropped_still (p : Page) (a b : Nat) (s : State) : (raiseDropped p a b s).still = s.still :=
  raiseEvent_still ..

@[simp] theorem routePage_still (p : Page) (z : List Nat) (s : State) : (routePage p z s).still = s.still := by
  unfold routePage; dsimp only; split
  · simp
  · split <;> simp

@[simp] theorem startPage_still (p : Page) (s : State) : (startPage p s).2.still = s.still := by
  unfold startPage; dsimp only; split
  · simp
  · split <;> simp

@[simp] theorem startFrom_still (l : List Page) (s : State) : (startFrom l s).still = s.still := by
  induction l generalizing s with
  | nil => simp [startFrom]
  | cons p l ih => unfold startFrom; dsimp only; split <;> simp [ih]

@[simp] theorem endActive_still (s : State) : (endActive s).still = s.still := by
  unfold endActive endActiveThen; split <;> simp

@[simp] theorem resolveAgain_still (s : State) : (resolveAgain s).still = s.still := by
  unfold resolveAgain; split <;> simp

@[simp] theorem numbered_still (p : Page) (s : State) : (numbered p s).2.still = s.still := rfl

theorem makePlace_still {p : Page} {s t : State} (h : makePlace p s = some t) : t.still = s.still := by
  unfold makePlace at h; split at h
  · cases h; rfl
  · split at h
    · cases h; rfl
    · split at h
      · cases h; simp
      · cases h

@[simp] theorem preemptedFate_still (p : Page) (n : Nat) (s : State) : (preemptedFate p n s).still = s.still := by
  unfold preemptedFate; dsimp only; rw [raiseEvent_still]
  split
  · rfl
  · cases h : makePlace { p with replayed := true } s with
    | none => rfl
    | some t => simpa using makePlace_still h

@[simp] theorem preempt_still (a : ActivePage) (p : Page) (s : State) : (preempt a p s).still = s.still := by
  simp [preempt]

theorem uniteTalk_still {p : Page} {s : State} {r : State × PageOutcome} (h : uniteTalk p s = some r) :
    r.1.still = s.still := by
  unfold uniteTalk at h; split at h
  · split at h
    · cases h; simp
    · simp only [Option.map_eq_some_iff] at h
      obtain ⟨q, -, rfl⟩ := h; rfl
  · cases h

@[simp] theorem queuePage_still (p : Page) (s : State) : (queuePage p s).1.still = s.still := by
  unfold queuePage; split
  · simp
  · next t h => simpa using makePlace_still h

@[simp] theorem placePage_still (p : Page) (s : State) : (placePage p s).1.still = s.still := by
  unfold placePage; split
  · rfl
  · split
    · simp
    · split <;> simp

@[simp] theorem requestPage_still (p : Page) (s : State) : (requestPage p s).1.still = s.still := by
  unfold requestPage; split
  · simp
  · split
    · simp
    · split
      · split
        · next h => exact uniteTalk_still h
        · simp
      · simp

@[simp] theorem callAction_still (c : Nat) (t : Target) (s : State) : (callAction c t s).still = s.still :=
  requestPage_still ..
@[simp] theorem timerCall_still (c : Nat) (t : Target) (s : State) : (timerCall c t s).still = s.still :=
  requestPage_still ..
@[simp] theorem talkAsserted_still (s : State) : (talkAsserted s).still = s.still := requestPage_still ..
@[simp] theorem stopPageBegins_still (s : State) : (stopPageBegins s).still = s.still := requestPage_still ..

@[simp] theorem talkReleased_still (s : State) : (talkReleased s).still = s.still := by
  unfold talkReleased; dsimp only
  repeat' split
  all_goals simp

@[simp] theorem stopPageEnds_still (s : State) : (stopPageEnds s).still = s.still := by
  unfold stopPageEnds; split
  · split <;> simp
  · rfl

@[simp] theorem cancelPage_still (n : Nat) (s : State) : (cancelPage n s).still = s.still := by
  unfold cancelPage; split
  · split <;> simp
  · rfl

@[simp] theorem resetRelay_still (s : State) : (resetRelay s).still = s.still := by
  unfold resetRelay endActiveThen; rw [idleVoice_still]; split <;> simp

@[simp] theorem attackTimerExpiry_still (s : State) : (attackTimerExpiry s).still = s.still := by
  unfold attackTimerExpiry; split
  · split <;> simp
  · rfl

@[simp] theorem clipPageEnd_still (s : State) : (clipPageEnd s).still = s.still := by
  unfold clipPageEnd; split <;> simp

@[simp] theorem voiceBlock_still (k : Nat) (d : Option (List Byte)) (s : State) :
    (voiceBlock k d s).still = s.still := by
  unfold voiceBlock; dsimp only; split
  · rfl
  · split <;> simp

@[simp] theorem voiceDirectoryChanged_still (s : State) : (voiceDirectoryChanged s).still = s.still := by
  unfold voiceDirectoryChanged; split
  · split
    · simp
    · split <;> simp
  · rfl

@[simp] theorem voiceUnderrun_still (e : DirEntry) (n : Nat) (v : Voice) (s : State) :
    (sampleVoice.voiceUnderrun e n v s).still = s.still := by
  unfold sampleVoice.voiceUnderrun; split <;> simp

@[simp] theorem sampleVoice_still (s : State) : (sampleVoice s).2.still = s.still := by
  unfold sampleVoice; dsimp only
  repeat' split
  all_goals simp

@[simp] theorem storeZone_still (n : Nat) (b : ZoneBody) (s : State) : (storeZone n b s).still = s.still := rfl

@[simp] theorem applyZone_still (n : Nat) (b : ZoneBody) (s : State) : (applyZone n b s).still = s.still := by
  unfold applyZone; dsimp only; split <;> simp

@[simp] theorem relayAdvance_still (s : State) : (relayAdvance s).still = s.still := by
  have h : (forEach 1 24 advanceZone s).still = s.still := forEach_still (f := advanceZone) (fun _ _ => rfl) ..
  unfold relayAdvance
  rw [← h]
  generalize forEach 1 24 advanceZone s = u
  have hv : (countVoiceWait u).still = u.still := by
    unfold countVoiceWait; split
    · rfl
    · split <;> simp
  have ha : ∀ v : State, (countAttack v).still = v.still := fun v => by unfold countAttack; split <;> simp
  rw [ha, hv]

@[simp] theorem formZoneCodes_still (s : State) : (formZoneCodes s).still = s.still := by
  have h : ∀ n t, (formZoneCode n t).still = t.still := fun n t => by unfold formZoneCode; dsimp only; split <;> simp
  have g := forEach_still h 1 24 s
  unfold formZoneCodes
  generalize forEach 1 24 formZoneCode s = u at g ⊢
  exact g

@[simp] theorem sampleZone_still (r p : Int) (n : Nat) (s : State) : (sampleZone r p n s).2.still = s.still := by
  unfold sampleZone; dsimp only; split
  · split <;> simp
  · rfl

/-! ### Timing -/

theorem withTmu_still (t : Tmu) (s : State) (h : t.clock = s.tmu.clock) : (s.withTmu t).still = s.still := by
  simp [State.still, h]

@[simp] theorem presenceBroken_still (s : State) : (presenceBroken s).still = s.still := rfl

@[simp] theorem clockLost_still (s : State) : (clockLost s).still = s.still := by
  unfold clockLost raiseClock; split
  · rw [raiseEvent_still]; rfl
  · rfl

@[simp] theorem clockRestored_still (s : State) : (clockRestored s).still = s.still := by
  unfold clockRestored raiseClock; split
  · rw [raiseEvent_still]; rfl
  · rfl

@[simp] theorem countValid_still (s : State) : (countValid s).still = s.still := rfl

@[simp] theorem countMissing_still (s : State) : (countMissing s).still = s.still := rfl

@[simp] theorem selectorPeriod_still (edge : Bool) (k : Taking) (s : State) : (selectorPeriod edge k s).still = s.still := by
  cases k <;> cases edge <;> simp [selectorPeriod]

@[simp] theorem judgeClock_still (s : State) : (judgeClock s).still = s.still := by
  unfold judgeClock; split <;> rfl

@[simp] theorem sampleLines_still (i : BoundaryInputs) (s : State) : (sampleLines i s).still = s.still := rfl

@[simp] theorem enterLineState_still (x : LineState) (n : Nat) (s : State) : (enterLineState x n s).still = s.still :=
  rfl

@[simp] theorem debounceUnblock_still (n : Nat) (s : State) : (debounceUnblock n s).still = s.still := by
  unfold debounceUnblock; split <;> simp

@[simp] theorem fireTimer_still (n : Nat) (l : Bool) (s : State) : (fireTimer n l s).still = s.still := by
  unfold fireTimer; dsimp only; split <;> simp

@[simp] theorem armTimer_still (n : Nat) (x : BitVec 32) (p : Payload) (s : State) :
    (armTimer n x p s).still = s.still := by
  unfold armTimer; dsimp only; split <;> simp

@[simp] theorem callTimerFire_still (n : Nat) (s : State) : (callTimerFire n s).still = s.still := by
  unfold callTimerFire; split <;> simp

@[simp] theorem fireTimers_still (s : State) : (fireTimers s).still = s.still := forEach_still callTimerFire_still ..

@[simp] theorem disarmTimer_still (n : Nat) (s : State) : (disarmTimer n s).still = s.still := rfl
@[simp] theorem markAction_still (n : Nat) (c : CueNumber) (s : State) : (markAction n c s).still = s.still := rfl
@[simp] theorem appendGo_still (c : CueNumber) (o : Origin) (s : State) : (appendGo c o s).still = s.still := rfl
@[simp] theorem decideLamp_still (s : State) : (decideLamp s).still = s.still := rfl

@[simp] theorem resetTiming_still (s : State) : (resetTiming s).still = s.still := by
  unfold resetTiming; dsimp only
  rw [withTmu_still _ _ (by rfl), forEach_still disarmTimer_still]

/-! ### Hold and stop -/

theorem withHsu_still (h : Hsu) (s : State) (h1 : h.settings = s.hsu.settings)
    (h2 : h.holdEffective = s.hsu.holdEffective) (h3 : h.stopActive = s.hsu.stopActive)
    (h4 : h.holdRequest = s.hsu.holdRequest) (h5 : h.stopRequest = s.hsu.stopRequest) :
    (s.withHsu h).still = s.still := by
  simp [State.still, h1, h2, h3, h4, h5]

@[simp] theorem setLineState_still (n : Nat) (v : Bool) (s : State) : (setLineState n v s).still = s.still := by
  unfold setLineState onHsu; split <;> exact withHsu_still _ _ rfl rfl rfl rfl rfl

@[simp] theorem holdStopAsserted_still (n : Nat) (s : State) : (holdStopAsserted n s).still = s.still :=
  setLineState_still ..

@[simp] theorem holdStopReleased_still (n : Nat) (s : State) : (holdStopReleased n s).still = s.still := by
  unfold holdStopReleased; split <;> simp

@[simp] theorem holdStopModeChanged_still (n : Nat) (s : State) : (holdStopModeChanged n s).still = s.still := by
  unfold holdStopModeChanged; split <;> simp

@[simp] theorem rampTo_still (e : Bool) (b c : Nat) (s : State) : (rampTo e b c s).still = s.still := rfl

@[simp] theorem rampIns_still (s : State) : (forEach 1 20 rampIn s).still = s.still :=
  forEach_still (fun _ _ => by unfold rampIn; split <;> simp) ..

@[simp] theorem rampOuts_still (s : State) : (forEach 1 20 rampOut s).still = s.still :=
  forEach_still (fun _ _ => by unfold rampOut; split <;> simp) ..

@[simp] theorem rampsForChange_still (g : StopSettings) (s : State) :
    (forEach 1 20 (rampForChange g) s).still = s.still :=
  forEach_still (fun _ _ => by unfold rampForChange; split <;> simp) ..

@[simp] theorem stepInjections_still (s : State) : (forEach 1 20 stepInjection s).still = s.still :=
  forEach_still (f := stepInjection) (fun _ _ => rfl) ..

@[simp] theorem onDuck_still (f : Duck → Duck) (s : State) : (onDuck f s).still = s.still := rfl

@[simp] theorem activateStop_still (s : State) : (activateStop s).still = s.still := by
  simp [activateStop, raiseShowStop]

@[simp] theorem deactivateStop_still (s : State) : (deactivateStop s).still = s.still := by
  simp [deactivateStop, raiseShowStop]

/-- HSU's publication changes the two published values and no other protected field. -/
theorem publishHold_still (s : State) :
    (publishHold s).still = { s.still with holdEffective := s.hsu.holdFormed, stopActive := s.hsu.stopFormed } := by
  unfold publishHold onHsu; dsimp only; split
  · rw [activateStop_still]; rfl
  · split
    · rw [deactivateStop_still]; rfl
    · rfl

@[simp] theorem advanceDuck_still (s : State) : (advanceDuck s).still = s.still := rfl

/-! ### The sequencer -/

theorem withSeq_still (q : Seq) (s : State) (h1 : q.showState = s.seq.showState) (h2 : q.skipCut = s.seq.skipCut)
    (h3 : q.lockoutSetting = s.seq.lockoutSetting) : (s.withSeq q).still = s.still := by
  simp [State.still, h1, h2, h3]

@[simp] theorem shiftStandby_still (n : Option Nat) (s : State) : (shiftStandby n s).still = s.still := rfl

@[simp] theorem moveStandby_still (n : Option Nat) (f : Bool) (s : State) : (moveStandby n f s).still = s.still := by
  unfold moveStandby; rw [standbyChanged_still]; rfl

@[simp] theorem startLockout_still (o : Origin) (s : State) : (startLockout o s).still = s.still := by
  unfold startLockout; split <;> rfl

@[simp] theorem raiseEndOfList_still (c : CueNumber) (s : State) : (raiseEndOfList c s).still = s.still := by
  unfold raiseEndOfList; split <;> simp

@[simp] theorem refuseGo_still (o : Origin) (g : GoOutcome) (s : State) : (refuseGo o g s).state.still = s.still :=
  raiseEvent_still ..

@[simp] theorem endEarly_still (n : Nat) (s : State) : (endEarly n s).still = s.still := by
  unfold endEarly; split <;> simp

@[simp] theorem endEarlyOf_still (c : CueNumber) (s : State) : (endEarlyOf c s).still = s.still := by
  unfold endEarlyOf; split <;> simp

@[simp] theorem handOver_still (o : Owner) (c : CueNumber) (w : Work) (s : State) :
    (handOver o c w s).still = s.still := by
  cases w <;> simp [handOver]

@[simp] theorem fireAction_still (n i : Nat) (s : State) : (fireAction n i s).still = s.still := by
  unfold fireAction; split
  · rfl
  · split <;> simp

@[simp] theorem fireDue_still (n k : Nat) (s : State) : (fireDue n k s).still = s.still := by
  induction k generalizing s with
  | zero => rfl
  | succ k ih => unfold fireDue; split <;> simp [ih]

@[simp] theorem prewaitEnd_still (n : Nat) (s : State) : (prewaitEnd n s).still = s.still := by
  unfold prewaitEnd; split
  · rfl
  · split
    · unfold activate; split <;> simp
    · rfl

@[simp] theorem createEntry_still (n : Nat) (c : Cue) (o : Origin) (t : Option CueNumber) (s : State) :
    (createEntry n c o t s).still = s.still := by simp [createEntry]

@[simp] theorem acceptGo_still (o : Origin) (n i : Nat) (c : Cue) (s : State) :
    (acceptGo o n i c s).state.still = s.still := by simp [acceptGo]

@[simp] theorem passCut_still (o : Origin) (i : Nat) (c : Cue) (s : State) :
    (passCut o i c s).state.still = s.still := by simp [passCut]

@[simp] theorem decideGo_still (o : Origin) (s : State) : (decideGo o s).state.still = s.still := by
  unfold decideGo; dsimp only
  repeat' split
  all_goals simp

@[simp] theorem decideFire_still (c : CueNumber) (s : State) : (decideFire c s).state.still = s.still := by
  unfold decideFire; dsimp only
  repeat' split
  all_goals simp

@[simp] theorem takeOut_still (n : Nat) (c : CueNumber) (s : State) : (takeOut n c s).still = s.still := by
  simp [takeOut]

@[simp] theorem follow_still (t : Option CueNumber) (s : State) : (follow t s).2.state.still = s.still := by
  unfold follow; split <;> simp

@[simp] theorem raiseCueDone_still (c : CueNumber) (o : FollowOutcome) (s : State) :
    (raiseCueDone c o s).still = s.still := raiseEvent_still ..

@[simp] theorem writeOutcome_still (n : Nat) (o : FollowOutcome) (s : State) :
    (writeOutcome n o s).still = s.still := by
  unfold writeOutcome; split <;> simp

@[simp] theorem expire_still (n : Nat) (s : State) : (expire n s).2.still = s.still := by
  unfold expire; split
  · rfl
  · split
    · simp
    · dsimp only; split <;> simp

@[simp] theorem sweepEntry_still (n : Nat) (s : State) : (sweepEntry n s).still = s.still := by
  unfold sweepEntry; split
  · rfl
  · split <;> simp

@[simp] theorem sweep_still (s : State) : (sweep s).still = s.still := forEach_still sweepEntry_still ..

@[simp] theorem chase_still (k : Nat) (o : Option Nat) (s : State) : (chase k o s).still = s.still := by
  induction k generalizing o s with
  | zero => rfl
  | succ k ih =>
    unfold chase; split
    · rfl
    · split
      · rfl
      · split <;> simp [ih]

@[simp] theorem postwaitExpiry_still (n : Nat) (s : State) : (postwaitExpiry n s).still = s.still := chase_still ..

theorem startFollow_still {n : Nat} {s t : State} (h : startFollow n s = some t) : t.still = s.still := by
  unfold startFollow at h; split at h
  · cases h
  · split at h
    · cases h; simp
    · cases h

theorem startFirst_still {k n : Nat} {s t : State} (h : startFirst k n s = some t) : t.still = s.still := by
  induction k generalizing n with
  | zero => cases h
  | succ k ih =>
    unfold startFirst at h; split at h
    · next h' => cases h; exact startFollow_still h'
    · exact ih h

@[simp] theorem startAll_still (k : Nat) (s : State) : (startAll k s).still = s.still := by
  induction k generalizing s with
  | zero => rfl
  | succ k ih =>
    unfold startAll; split
    · rfl
    · next h => rw [ih, startFirst_still h]

@[simp] theorem settleSeq_still (s : State) : (settleSeq s).still = s.still := by simp [settleSeq]

@[simp] theorem finishGo_still (r : GoResult) : (finishGo r).still = r.state.still := by simp [finishGo]

@[simp] theorem countSeq_still (h : Bool) (s : State) : (countSeq h s).still = s.still := rfl

@[simp] theorem entriesBoundary_still (l : List Nat) (s : State) : (entriesBoundary l s).still = s.still := by
  induction l generalizing s with
  | nil => rfl
  | cons a l ih => simp [entriesBoundary, entryBoundary, ih]

@[simp] theorem sequencerBoundary_still (k : Taking) (s : State) : (sequencerBoundary k s).still = s.still := by
  unfold sequencerBoundary; split
  · rfl
  · split <;> simp

@[simp] theorem actionFire_still (n i : Nat) (s : State) : (actionFire n i s).still = s.still := by
  unfold actionFire; split <;> simp

@[simp] theorem locateTo_still (i : Nat) (s : State) : (locateTo i s).still = s.still := by
  unfold locateTo; split <;> simp

@[simp] theorem removeEntries_still (l : List (Nat × Entry)) (s : State) : (removeEntries l s).still = s.still := by
  induction l generalizing s with
  | nil => rfl
  | cons a l ih => simp [removeEntries, ih]

@[simp] theorem endEntriesEarly_still (l : List (Nat × Entry)) (s : State) :
    (endEntriesEarly l s).still = s.still := by
  induction l generalizing s with
  | nil => rfl
  | cons a l ih => simp [endEntriesEarly, ih]

/-- The show reset clears the hold request flag and keeps every other protected field (R68). -/
theorem showReset_still (s : State) : (showReset s).still = { s.still with holdRequest := false } := by
  have h : ∀ t : State, (resetHold t).still = { t.still with holdRequest := false } := fun t => rfl
  have g : ∀ t : State, (forEach 1 12 resetGovernor t).still = t.still := forEach_still resetGovernor_still 1 12
  unfold showReset; dsimp only
  rw [moveStandby_still, resetTiming_still, h, resetRelay_still, g, resetPlayers_still, resetMatrix_still,
    withSeq_still, removeEntries_still] <;> rfl

/-! ### Operations and the walk -/

@[simp] theorem setSlot_still (o : Option Operation) (s : State) : (setSlot o s).still = s.still := rfl

@[simp] theorem endOperation_still (k : OpKind) (a b : Nat) (d : List Byte) (s : State) :
    (endOperation k a b d s).still = s.still := by simp [endOperation]

@[simp] theorem opOk_still (k : OpKind) (n : Nat) (s : State) : (opOk k n s).still = s.still :=
  endOperation_still ..

@[simp] theorem opFailed_still (k : OpKind) (c : OpCause) (n : Nat) (s : State) : (opFailed k c n s).still = s.still :=
  endOperation_still ..

@[simp] theorem onReport_still (f : Report → Report) (s : State) : (onReport f s).still = s.still := rfl
@[simp] theorem setClean_still (b : Bool) (s : State) : (setClean b s).still = s.still := rfl

@[simp] theorem editMade_still (s : State) : (editMade s).still = s.still := by
  unfold editMade abortPreflight; split <;> simp

@[simp] theorem recordFault_still (c : CueNumber) (n : Nat) (k : FaultKind) (s : State) :
    (recordFault c n k s).still = s.still := rfl

@[simp] theorem recordIf_still (b : Bool) (c : CueNumber) (n : Nat) (k : FaultKind) (s : State) :
    (recordIf b c n k s).still = s.still := by
  unfold recordIf; split <;> simp

@[simp] theorem judgeAction_still (c : CueNumber) (i : Nat) (g : Option Bool) (w : Work) (s : State) :
    (judgeAction c i g w s).still = s.still := by
  unfold judgeAction; split
  · simp
  · split <;> simp

@[simp] theorem nextAction_still (v : Bool) (w : Walk) (n : Nat) (s : State) : (nextAction v w n s).still = s.still := by
  unfold nextAction; split <;> simp

@[simp] theorem completePreflight_still (s : State) : (completePreflight s).still = s.still := by
  unfold completePreflight; dsimp only; split <;> simp

@[simp] theorem walkStep_still (s : State) : (walkStep s).still = s.still := by
  unfold walkStep
  repeat' split
  all_goals simp

@[simp] theorem walkBlock_still (d : List Byte) (s : State) : (walkBlock d s).still = s.still := by
  unfold walkBlock; dsimp only
  repeat' split
  all_goals simp

@[simp] theorem walkError_still (s : State) : (walkError s).still = s.still := by
  unfold walkError failPreflight
  repeat' split
  all_goals simp

@[simp] theorem startPreflight_still (v : Bool) (s : State) : (startPreflight v s).still = s.still := by
  simp [startPreflight]

/-! ### Lines -/

@[simp] theorem deliverAssertion_still (n : Nat) (s : State) : (deliverAssertion n s).still = s.still := by
  unfold deliverAssertion
  repeat' split
  all_goals simp

@[simp] theorem deliverRelease_still (n : Nat) (s : State) : (deliverRelease n s).still = s.still := by
  unfold deliverRelease
  repeat' split
  all_goals simp

@[simp] theorem lineAssertion_still (n : Nat) (s : State) : (lineAssertion n s).still = s.still := by
  unfold lineAssertion; split <;> simp

@[simp] theorem lineRelease_still (n : Nat) (s : State) : (lineRelease n s).still = s.still := by
  unfold lineRelease; split <;> simp

@[simp] theorem applyLine_still (n : Nat) (b : LineBody) (s : State) : (applyLine n b s).still = s.still := by
  unfold applyLine; dsimp only; split
  · simp; split <;> simp
  · simp; split <;> simp

/-! ### The arbiter -/

theorem withCmc_still (c : Cmc) (s : State) (h1 : c.capacity = s.cmc.capacity) (h2 : c.flash = s.cmc.flash)
    (h3 : c.directory = s.cmc.directory) : (s.withCmc c).still = s.still := by
  simp [State.still, h1, h2, h3]

@[simp] theorem grant_still (c : Client) (x : Extent) (k : Nat) (s : State) : (grant c x k s).still = s.still := rfl
@[simp] theorem grantLink_still (x : Extent) (s : State) : (grantLink x s).still = s.still := rfl

@[simp] theorem grantPlayback_still (w : Wish) (s : State) : (grantPlayback w s).still = s.still := by
  unfold grantPlayback; dsimp only; split
  · rw [withCmc_still _ _ (by rfl) (by rfl) (by rfl), grant_still]
  · simp

@[simp] theorem arbitrate_still (s : State) : (arbitrate s).still = s.still := by
  unfold arbitrate decideGrant
  repeat' split
  all_goals simp

@[simp] theorem settle_still (s : State) : (settle s).still = s.still := by simp [settle]

@[simp] theorem startsDue_still (s : State) : (startsDue s).still = s.still := by
  simp [startsDue, forEach_still]

@[simp] theorem freeTransfer_still (s : State) : (freeTransfer s).still = s.still := rfl
@[simp] theorem countTransfer_still (s : State) : (countTransfer s).still = s.still := rfl

@[simp] theorem raiseTransferFault_still (t : Transfer) (c : Nat) (s : State) :
    (raiseTransferFault t c s).still = s.still := by
  unfold raiseTransferFault; split <;> simp

end Sys2Proof.Machine
end

