-- ==== Sys2Proof/Laws/Link.lean ====
section
/-!
SUPPORT. How a request reaches its owner: what arriving at a ready link comes to, and what the link's own operations change.
-/

namespace Sys2Proof.Machine

@[simp] theorem heard_replies (s : State) : (hunterHome s).clink.replies = s.clink.replies := rfl
@[simp] theorem heard_queue (s : State) : (hunterHome s).clink.queue = s.clink.queue := rfl
@[simp] theorem heard_inHand (s : State) : (hunterHome s).clink.inHand = s.clink.inHand := rfl
@[simp] theorem heard_resetTaken (s : State) : (hunterHome s).clink.resetTaken = s.clink.resetTaken := rfl
@[simp] theorem heard_loading (s : State) : loading (hunterHome s) = loading s := rfl
@[simp] theorem heard_evr (s : State) : (hunterHome s).evr = s.evr := rfl
@[simp] theorem heard_cst (s : State) : (hunterHome s).cst = s.cst := rfl
@[simp] theorem heard_seq (s : State) : (hunterHome s).seq = s.seq := rfl
@[simp] theorem heard_mix (s : State) : (hunterHome s).mix = s.mix := rfl
@[simp] theorem heard_ply (s : State) : (hunterHome s).ply = s.ply := rfl
@[simp] theorem heard_cmc (s : State) : (hunterHome s).cmc = s.cmc := rfl
@[simp] theorem heard_fbg (s : State) : (hunterHome s).fbg = s.fbg := rfl
@[simp] theorem heard_rpu (s : State) : (hunterHome s).rpu = s.rpu := rfl
@[simp] theorem heard_hsu (s : State) : (hunterHome s).hsu = s.hsu := rfl
@[simp] theorem heard_tmu (s : State) : (hunterHome s).tmu = s.tmu := rfl
@[simp] theorem heard_draws (s : State) : (hunterHome s).draws = s.draws := rfl
@[simp] theorem heard_pending (s : State) : (hunterHome s).pending = s.pending := rfl
@[simp] theorem heard_clipEntry (s : State) (clip : Nat) : clipEntry (hunterHome s) clip = clipEntry s clip := rfl
@[simp] theorem sendReply_replies (code tag : Nat) (st : Status) (c : List Field) (s : State) :
    (sendReply code tag st c s).clink.replies = s.clink.replies ++ [⟨code, tag, st, c⟩] := rfl
@[simp] theorem sendReply_queue (code tag : Nat) (st : Status) (c : List Field) (s : State) :
    (sendReply code tag st c s).clink.queue = s.clink.queue := rfl

/-- A request that arrives at a ready link is taken in the same step and decided (R178, R179). -/
theorem arrive_ready (tag : Nat) (r : Request) {s : State} (h : LinkReady s) :
    arrive tag r s = settle (handRequest tag r (hunterHome s)) := by
  rcases s with ⟨⟨rate, hunter, gap, queue, inHand, replies, taken, errors, sent⟩, evr, cst, seq, mix, ply, cmc, fbg,
    rpu, hsu, tmu, draws, pending⟩
  obtain ⟨hq, hm⟩ := h
  dsimp only at hq
  subst hq
  have hin : inHand = none := by
    simp only [mayTake, Bool.and_eq_true, Option.isNone_iff_eq_none] at hm; exact hm.1.1
  subst hin
  exact if_pos (c := mayTake ⟨rate, {}, 0, [.request tag false (.request r)], none, replies, taken, errors, sent⟩ = true)
    hm

/-- Outside a show load, a request other than READ PAGE that arrives at a ready link is answered by its owner in the same
step (R179). -/
theorem arrive_open (tag : Nat) (r : Request) {s : State} (h : LinkOpen s) (hr : ∀ p, r ≠ .readPage p) :
    arrive tag r s = settle (giveAnswer (requestCode r) tag (decideRequest r (hunterHome s))) := by
  rw [arrive_ready tag r h.1]
  congr 1
  unfold handRequest
  rw [if_neg (by simp [h.2])]
  split
  · exact absurd rfl (hr _)
  · rfl

/-- A request row stands for a request that arrives. -/
theorem exec_request {i : Instr} {tag : Nat} {r : Request} (h : requestOf i = some (tag, r)) (s : State) :
    exec i s = .next (arrive tag r s) := by
  cases i <;> first | (cases h; rfl) | cases h

/-- A request row at an open link: its owner's answer, settled (R179). -/
theorem exec_open {i : Instr} {tag : Nat} {r : Request} {s : State} (h : requestOf i = some (tag, r)) (hl : LinkOpen s)
    (hr : ∀ p, r ≠ .readPage p) :
    Decided i s (requestCode r) tag (decideRequest r (hunterHome s)).status
      (decideRequest r (hunterHome s)).contents (decideRequest r (hunterHome s)).state := by
  unfold Decided
  rw [exec_request h, arrive_open tag r hl hr]
  rfl

/-- A request row at an open link, its owner's answer known (R179): what the statements about requests come down to. -/
theorem decided_of {i : Instr} {tag code : Nat} (r : Request) {s u : State} {st : Status} {c : List Field}
    (h : requestOf i = some (tag, r)) (hc : requestCode r = code) (hl : LinkOpen s) (hr : ∀ p, r ≠ .readPage p)
    (ha : decideRequest r (hunterHome s) = ⟨st, c, u⟩) : Decided i s code tag st c u := by
  have hd := exec_open h hl hr
  rw [ha, hc] at hd
  exact hd

end Sys2Proof.Machine
end

