-- ==== Sys2Proof/Laws/Sparse.lean ====
section
/-!
SUPPORT. Sparse tables: what a write leaves to read, and that a write keeps the indices rising.
-/

namespace Sys2Proof.Machine

variable {α : Type}

/-- Putting into a table with a head, step by step. -/
theorem sparsePut_cons (e : Nat × α) (rest : Sparse α) (k : Nat) (o : Option α) :
    sparsePut (e :: rest) k o
      = if e.1 < k then e :: sparsePut rest k o
        else
          match o with
          | none => if e.1 = k then rest else e :: rest
          | some v => if e.1 = k then (k, v) :: rest else (k, v) :: e :: rest := by
  cases o <;> rfl

/-- A lower bound may be dropped. -/
theorem sparseRising_weaken {low : Option Nat} {m : Sparse α} (h : sparseRising low m = true) :
    sparseRising none m = true := by
  cases m with
  | nil => rfl
  | cons e rest => simp [sparseRising] at h ⊢; exact h.2

/-- A lower bound may be lowered. -/
theorem sparseRising_lower {a b : Nat} {m : Sparse α} (hab : a ≤ b) (h : sparseRising (some b) m = true) :
    sparseRising (some a) m = true := by
  cases m with
  | nil => rfl
  | cons e rest => simp [sparseRising] at h ⊢; exact ⟨by omega, h.2⟩

/-- An index at or below the lower bound of a table is not listed. -/
theorem sparseFind_below {low k : Nat} {m : Sparse α} (h : sparseRising (some low) m = true) (hk : k ≤ low) :
    sparseFind m k = none := by
  induction m generalizing low with
  | nil => rfl
  | cons e rest ih =>
    simp only [sparseRising, Bool.and_eq_true, Option.all_eq_true, decide_eq_true_eq] at h
    have hlow : low < e.1 := h.1 low rfl
    rw [sparseFind, if_neg (by omega)]
    exact ih h.2 (by omega)

/-- A table put at an index reads back what was put there. -/
theorem sparseFind_put_same {low : Option Nat} {m : Sparse α} (h : sparseRising low m = true) (k : Nat) (o : Option α) :
    sparseFind (sparsePut m k o) k = o := by
  induction m generalizing low with
  | nil => cases o <;> simp [sparsePut, sparseFind]
  | cons e rest ih =>
    simp only [sparseRising, Bool.and_eq_true, Option.all_eq_true, decide_eq_true_eq] at h
    rw [sparsePut_cons]
    split
    · next hlt => rw [sparseFind, if_neg (by omega)]; exact ih h.2
    · next hlt =>
      cases o with
      | none =>
        dsimp only
        split
        · next he => subst he; exact sparseFind_below h.2 (Nat.le_refl _)
        · next he =>
          rw [sparseFind, if_neg he]
          exact sparseFind_below h.2 (by omega)
      | some v => dsimp only; split <;> simp [sparseFind]

/-- Putting at an index leaves every other index as it was. -/
theorem sparseFind_put_other {m : Sparse α} {j k : Nat} (hjk : j ≠ k) (o : Option α) :
    sparseFind (sparsePut m k o) j = sparseFind m j := by
  induction m with
  | nil => cases o <;> simp [sparsePut, sparseFind, Ne.symm hjk]
  | cons e rest ih =>
    rw [sparsePut_cons]
    split
    · simp only [sparseFind]; rw [ih]
    · cases o with
      | none =>
        dsimp only
        split
        · next he => rw [sparseFind, if_neg (by omega)]
        · rfl
      | some v =>
        dsimp only
        split
        · next he => simp only [sparseFind]; rw [if_neg (by omega), if_neg (by omega)]
        · next he => rw [sparseFind, if_neg (Ne.symm hjk)]

/-- Putting keeps the indices rising, above a lower bound that the index put lies above. -/
theorem sparseRising_put {low : Option Nat} {m : Sparse α} (h : sparseRising low m = true) (k : Nat) (o : Option α)
    (hk : ∀ l, low = some l → l < k) : sparseRising low (sparsePut m k o) = true := by
  induction m generalizing low with
  | nil =>
    cases o with
    | none => rfl
    | some v => cases low <;> simp_all [sparsePut, sparseRising]
  | cons e rest ih =>
    simp only [sparseRising, Bool.and_eq_true, Option.all_eq_true, decide_eq_true_eq] at h
    rw [sparsePut_cons]
    split
    · next hlt =>
      simp only [sparseRising, Bool.and_eq_true, Option.all_eq_true, decide_eq_true_eq]
      exact ⟨fun l hl => h.1 l hl, ih h.2 (fun l hl => by cases hl; exact hlt)⟩
    · next hlt =>
      have hrest : ∀ l, low = some l → sparseRising (some l) rest = true := fun l hl =>
        sparseRising_lower (Nat.le_of_lt (h.1 l hl)) h.2
      cases o with
      | none =>
        dsimp only
        split
        · cases low with
          | none => exact sparseRising_weaken h.2
          | some l => exact hrest l rfl
        · simp only [sparseRising, Bool.and_eq_true, Option.all_eq_true, decide_eq_true_eq]
          exact ⟨fun l hl => h.1 l hl, h.2⟩
      | some v =>
        dsimp only
        split
        · next he =>
          simp only [sparseRising, Bool.and_eq_true, Option.all_eq_true, decide_eq_true_eq]
          exact ⟨hk, by rw [← he]; exact h.2⟩
        · next he =>
          simp only [sparseRising, Bool.and_eq_true, Option.all_eq_true, decide_eq_true_eq]
          exact ⟨hk, ⟨fun l hl => by cases hl; omega, h.2⟩⟩

/-- What a put table lists was listed before or is what was put. -/
theorem mem_sparsePut {m : Sparse α} {k : Nat} {o : Option α} {e : Nat × α} :
    e ∈ sparsePut m k o → e ∈ m ∨ (e.1 = k ∧ o = some e.2) := by
  induction m with
  | nil => cases o <;> simp +contextual [sparsePut]
  | cons f rest ih =>
    rw [sparsePut_cons, List.mem_cons]
    split
    · rw [List.mem_cons, or_assoc]
      exact Or.imp_right ih
    · cases o <;> dsimp only <;> split <;> simp +contextual [or_imp]

variable [DecidableEq α]

/-- Reading the index just written gives the record written. -/
theorem sparseRead_write_same {low : Option Nat} (d : α) {m : Sparse α} (h : sparseRising low m = true) (k : Nat) (v : α) :
    sparseRead d (sparseWrite d m k v) k = v := by
  unfold sparseRead sparseWrite
  rw [sparseFind_put_same h]
  split
  · next hv => exact hv.symm
  · rfl

/-- Reading any other index gives what it gave before. -/
theorem sparseRead_write_other (d : α) {m : Sparse α} {j k : Nat} (hjk : j ≠ k) (v : α) :
    sparseRead d (sparseWrite d m k v) j = sparseRead d m j := by
  unfold sparseRead sparseWrite
  rw [sparseFind_put_other hjk]

/-- A write keeps the indices rising. -/
theorem sparseRising_write (d : α) {m : Sparse α} (h : sparseRising none m = true) (k : Nat) (v : α) :
    sparseRising none (sparseWrite d m k v) = true :=
  sparseRising_put h k _ (fun _ hl => by cases hl)

/-- What a written table lists was listed before or is the record written, which is not the unlisted one. -/
theorem mem_sparseWrite {d v : α} {m : Sparse α} {k : Nat} {e : Nat × α} (h : e ∈ sparseWrite d m k v) :
    e ∈ m ∨ (e = (k, v) ∧ v ≠ d) := by
  rcases mem_sparsePut h with h | ⟨h1, h2⟩
  · exact .inl h
  · split at h2
    · cases h2
    · next hv => cases h2; exact .inr ⟨by rw [← h1], hv⟩

end Sys2Proof.Machine
end

