-- ==== Sys2Proof/Laws/Memory.lean ====
section
/-!
SUPPORT. The flash: a read after a write, and that every operation on the flash keeps its canonical form (R93).
-/

namespace Sys2Proof.Machine

/-- The canonical form as its two parts. -/
theorem memory_wf_iff {m : List Host.Cell} :
    Memory.wf m = true ↔ sparseRising none m = true ∧ ∀ c ∈ m, c.2 ≠ erased := by
  simp [Memory.wf]

/-- The flash after reset is in canonical form. -/
theorem reset_memory_wf : Memory.wf State.reset.cmc.flash = true := rfl

/-- A byte just set reads back. -/
theorem flashByte_set_same {m : List Host.Cell} (h : Memory.wf m = true) (a : Nat) (b : Byte) :
    flashByte (flashSet m a b) a = b := sparseRead_write_same _ (memory_wf_iff.mp h).1 a b

/-- Setting a byte leaves every other byte alone. -/
theorem flashByte_set_other {m : List Host.Cell} {a c : Nat} (hc : c ≠ a) (b : Byte) :
    flashByte (flashSet m a b) c = flashByte m c := sparseRead_write_other _ hc b

/-- Setting a byte keeps the canonical form. -/
theorem flashSet_wf {m : List Host.Cell} (h : Memory.wf m = true) (a : Nat) (b : Byte) :
    Memory.wf (flashSet m a b) = true := by
  rw [memory_wf_iff] at h ⊢
  refine ⟨sparseRising_write _ h.1 a b, fun c hc => ?_⟩
  rcases mem_sparseWrite hc with hc | ⟨rfl, hv⟩
  · exact h.2 c hc
  · exact hv

/-- Storing some bytes keeps the canonical form. -/
theorem flashStore_wf (f : Byte → Byte → Byte) (data : List Byte) {m : List Host.Cell} (h : Memory.wf m = true) (a : Nat) :
    Memory.wf (flashStore f m a data) = true := by
  induction data generalizing m a with
  | nil => exact h
  | cons b rest ih => exact ih (flashSet_wf h _ _) _

/-- Storing leaves the bytes outside the store alone. -/
theorem flashByte_store_other (f : Byte → Byte → Byte) (data : List Byte) {m : List Host.Cell} {a c : Nat}
    (hc : c < a ∨ a + data.length ≤ c) : flashByte (flashStore f m a data) c = flashByte m c := by
  induction data generalizing m a with
  | nil => rfl
  | cons b rest ih =>
    have hl : (b :: rest).length = rest.length + 1 := rfl
    rw [flashStore, ih (by omega), flashByte_set_other (by omega)]

/-- Each stored byte is the one that stood there combined with the one given. -/
theorem flashByte_store (f : Byte → Byte → Byte) (data : List Byte) {m : List Host.Cell} (h : Memory.wf m = true)
    (a i : Nat) (hi : i < data.length) :
    flashByte (flashStore f m a data) (a + i) = f (flashByte m (a + i)) (data.getD i 0) := by
  induction data generalizing m a i with
  | nil => exact absurd hi (by simp)
  | cons b rest ih =>
    cases i with
    | zero => rw [flashStore, flashByte_store_other _ _ (by omega)]; exact flashByte_set_same h _ _
    | succ i =>
      have := ih (flashSet_wf h a (f (flashByte m a) b)) (a + 1) i (by simpa using hi)
      rw [flashStore, show a + (i + 1) = a + 1 + i by omega, this, flashByte_set_other (by omega)]
      rfl

/-- Programming a page keeps the canonical form (R93). -/
theorem flashProgram_wf {m : List Host.Cell} (h : Memory.wf m = true) (page : Nat) (data : List Byte) :
    Memory.wf (flashProgram m page data) = true := flashStore_wf _ _ h _

/-- A part of a rising table that a filter leaves is rising. -/
theorem sparseRising_filter {α : Type} (p : Nat × α → Bool) {low : Option Nat} {m : Sparse α}
    (h : sparseRising low m = true) : sparseRising low (m.filter p) = true := by
  induction m generalizing low with
  | nil => rfl
  | cons e rest ih =>
    simp only [sparseRising, Bool.and_eq_true, Option.all_eq_true, decide_eq_true_eq] at h
    rw [List.filter_cons]
    split
    · simp only [sparseRising, Bool.and_eq_true, Option.all_eq_true, decide_eq_true_eq]
      exact ⟨h.1, ih h.2⟩
    · cases low with
      | none => exact sparseRising_weaken (ih h.2)
      | some l => exact sparseRising_lower (Nat.le_of_lt (h.1 l rfl)) (ih h.2)

/-- Erasing a sector keeps the canonical form (R93). -/
theorem flashErase_wf {m : List Host.Cell} (h : Memory.wf m = true) (sector : Nat) :
    Memory.wf (flashErase m sector) = true := by
  rw [memory_wf_iff] at h ⊢
  exact ⟨sparseRising_filter _ h.1, fun c hc => h.2 c (List.mem_filter.mp hc).1⟩

/-- A filter by index leaves the indices it keeps and unlists the others. -/
theorem sparseFind_filter {α : Type} (p : Nat → Bool) (m : Sparse α) (k : Nat) :
    sparseFind (m.filter fun e => p e.1) k = if p k then sparseFind m k else none := by
  induction m with
  | nil => simp [sparseFind]
  | cons e rest ih =>
    rw [List.filter_cons]
    by_cases hk : e.1 = k
    · subst hk
      by_cases hp : p e.1 = true
      · rw [if_pos hp, if_pos hp, sparseFind, sparseFind, if_pos rfl, if_pos rfl]
      · rw [if_neg hp, ih, if_neg hp, if_neg hp]
    · by_cases hp : p e.1 = true
      · rw [if_pos hp, sparseFind, if_neg hk, ih, sparseFind, if_neg hk]
      · rw [if_neg hp, ih, sparseFind, if_neg hk]

/-- An erased sector reads FFh and every other byte as before (R93, R102). -/
theorem flashByte_erase (m : List Host.Cell) (sector a : Nat) :
    flashByte (flashErase m sector) a
      = if a < sector * 65536 ∨ sector * 65536 + 65536 ≤ a then flashByte m a else erased := by
  unfold flashByte flashErase sparseRead
  rw [sparseFind_filter (fun k => decide (k < sector * 65536 ∨ sector * 65536 + 65536 ≤ k))]
  simp only [decide_eq_true_eq]
  split <;> rfl

/-- What a transfer that ends well brings to the flash keeps the canonical form (R97). -/
theorem flashAfter_wf {m : List Host.Cell} (h : Memory.wf m = true) (x : Extent) : Memory.wf (flashAfter m x) = true := by
  cases x with
  | blockRead p => exact h
  | pageRead p => exact h
  | pageProgram page data => exact flashProgram_wf h page data
  | sectorErase k => exact flashErase_wf h k

/-- What a failed transfer leaves keeps the canonical form (R101, R102). -/
theorem flashAfterError_wf (draw : Nat) {m : List Host.Cell} (h : Memory.wf m = true) (x : Extent) :
    Memory.wf (flashAfterError draw m x) = true := by
  cases x with
  | blockRead p => exact h
  | pageRead p => exact h
  | pageProgram page data => exact flashStore_wf _ _ h _
  | sectorErase k => exact flashStore_wf _ _ h _

/-- What a transfer that a reset interrupted leaves keeps the canonical form (R110). -/
theorem flashInterrupted_wf (draw : Nat) {m : List Host.Cell} (h : Memory.wf m = true) (x : Extent) :
    Memory.wf (flashInterrupted draw m x) = true := by
  cases x with
  | blockRead p => exact h
  | pageRead p => exact h
  | pageProgram page data => exact flashStore_wf _ _ h _
  | sectorErase k => exact flashStore_wf _ _ h _

/-- A cut save's show region keeps the canonical form (R110). -/
theorem tornFlash_wf {before cut : List Host.Cell} (hb : Memory.wf before = true) (hc : Memory.wf cut = true) :
    Memory.wf (tornFlash before cut) = true := by
  unfold tornFlash
  split
  · exact hc
  · split
    · exact hb
    · exact flashSet_wf hb _ _

/-- The flash as a reset finds it keeps the canonical form (R110). -/
theorem flashAtReset_wf {s : State} (h : Memory.wf s.cmc.flash = true) : Memory.wf (flashAtReset s) = true := by
  have hc : Memory.wf (flashCut s) = true := by
    unfold flashCut
    split
    · exact h
    · exact flashInterrupted_wf _ h _
  unfold flashAtReset
  split
  · exact tornFlash_wf h hc
  · exact hc

end Sys2Proof.Machine
end

