-- ==== Sys2Proof/Laws/Players.lean ====
section
/-!
SUPPORT. What the fetch of a starting play and the selector's counts do, field by field.
-/

namespace Sys2Proof.Machine

/-! ### The start of a play and the turn it owes (R74, R79) -/

@[simp] theorem aim_buffer (e : DirEntry) (loops : Nat) (p : Player) : (p.aim e loops).buffer = p.buffer := by
  unfold Player.aim; split <;> rfl

@[simp] theorem aim_fetchLoops (e : DirEntry) (loops : Nat) (p : Player) : (p.aim e loops).fetchLoops = loops := by
  unfold Player.aim; split <;> rfl

@[simp] theorem aim_position (e : DirEntry) (loops : Nat) (p : Player) : (p.aim e loops).position = p.position := by
  unfold Player.aim; split <;> rfl

/-- Where a starting play's fetch points: to the loop start where the play turns at a block already buffered. -/
theorem aim_fetchNext (e : DirEntry) (loops : Nat) (p : Player) :
    (p.aim e loops).fetchNext = if loops ≠ 1 ∧ p.turnBuffered e = true then some e.loopBlock else p.fetchNext := by
  unfold Player.aim; split <;> rfl

/-- The blocks up to the loop end begin as the buffer does. -/
@[simp] theorem untilTurn_head (e : DirEntry) (l : List Block) : (untilTurn e l).head? = l.head? := by
  cases l with
  | nil => rfl
  | cons b rest => unfold untilTurn; split <;> rfl

/-- They are no more than the buffer holds. -/
theorem untilTurn_length_le (e : DirEntry) (l : List Block) : (untilTurn e l).length ≤ l.length := by
  induction l with
  | nil => exact Nat.le_refl 0
  | cons b rest ih =>
    unfold untilTurn; split
    · exact Nat.succ_le_succ (Nat.zero_le _)
    · exact Nat.succ_le_succ ih

/-- A player that owes no turn takes none. -/
theorem takeTurn_of_not_owed {e : DirEntry} {p : Player} (h : p.turnOwed = false) : p.takeTurn e = p := by
  simp [Player.takeTurn, h]

/-- All that a turn taken changes. -/
theorem takeTurn_of_owed {e : DirEntry} {p : Player} (h : p.turnOwed = true) :
    p.takeTurn e = { p with
      turnOwed := false, fetchLoops := afterTurn p.fetchLoops, buffer := untilTurn e p.buffer } := by
  simp [Player.takeTurn, h]

@[simp] theorem takeTurn_head (e : DirEntry) (p : Player) : (p.takeTurn e).buffer.head? = p.buffer.head? := by
  unfold Player.takeTurn; split <;> simp

@[simp] theorem takeTurn_fetchNext (e : DirEntry) (p : Player) : (p.takeTurn e).fetchNext = p.fetchNext := by
  unfold Player.takeTurn; split <;> rfl

theorem takeTurn_length_le (e : DirEntry) (p : Player) : (p.takeTurn e).buffer.length ≤ p.buffer.length := by
  unfold Player.takeTurn; split
  · exact untilTurn_length_le e _
  · exact Nat.le_refl _

/-! ### The selector (R163, R164) -/

@[simp] theorem countValid_locked (s : State) : (countValid s).tmu.locked = s.tmu.locked := rfl
@[simp] theorem countValid_present (s : State) : (countValid s).tmu.present = true := rfl
@[simp] theorem countMissing_locked (s : State) : (countMissing s).tmu.locked = s.tmu.locked := rfl
@[simp] theorem countMissing_present (s : State) : (countMissing s).tmu.present = false := rfl
@[simp] theorem countMissing_presence (s : State) : (countMissing s).tmu.presence = 0 := rfl
@[simp] theorem countMissing_absence (s : State) : (countMissing s).tmu.absence = s.tmu.absence + 1 := rfl

/-- After the first judgement a boundary leaves the selector alone. -/
theorem judgeClock_of_judged {s : State} (h : s.tmu.judged = true) : judgeClock s = s := by
  simp [judgeClock, h]

end Sys2Proof.Machine
end

