-- ==== Sys2Proof/Laws/Records.lean ====
section
/-!
SUPPORT. The records kept by index: what a record reads as after one is written.
-/

namespace Sys2Proof.Machine

/-- A player just written reads back. -/
theorem playerOf_set {s : State} (h : sparseRising none s.ply.players = true) (n : Nat) (p : Player) :
    playerOf (setPlayerRecord n p s) n = p := sparseRead_write_same _ h n p

/-- Writing a player leaves the others alone. -/
theorem playerOf_set_other {m n : Nat} (h : m ≠ n) (p : Player) (s : State) :
    playerOf (setPlayerRecord n p s) m = playerOf s m := sparseRead_write_other _ h p

/-- A governor just written reads back. -/
theorem governorOf_set {s : State} (h : sparseRising none s.fbg.governors = true) (n : Nat) (g : Governor) :
    governorOf (setGovernorRecord n g s) n = g := sparseRead_write_same _ h n g

/-- Writing a governor leaves the others alone. -/
theorem governorOf_set_other {m n : Nat} (h : m ≠ n) (g : Governor) (s : State) :
    governorOf (setGovernorRecord n g s) m = governorOf s m := sparseRead_write_other _ h g

/-- A zone just written reads back. -/
theorem zoneOf_set {s : State} (h : sparseRising none s.rpu.zones = true) (n : Nat) (z : Zone) :
    zoneOf (setZoneRecord n z s) n = z := sparseRead_write_same _ h n z

/-- Writing a zone leaves the others alone. -/
theorem zoneOf_set_other {m n : Nat} (h : m ≠ n) (z : Zone) (s : State) :
    zoneOf (setZoneRecord n z s) m = zoneOf s m := by
  unfold zoneOf setZoneRecord sparseRead sparseWrite
  show (sparseFind (sparsePut s.rpu.zones n _) m).getD _ = _
  rw [sparseFind_put_other h]

/-- A line just written reads back. -/
theorem lineOf_set {s : State} (h : sparseRising none s.tmu.lines = true) (n : Nat) (l : Line) :
    lineOf (setLineRecord n l s) n = l := sparseRead_write_same _ h n l

/-- Writing a line leaves the others alone. -/
theorem lineOf_set_other {m n : Nat} (h : m ≠ n) (l : Line) (s : State) :
    lineOf (setLineRecord n l s) m = lineOf s m := sparseRead_write_other _ h l

/-- A call timer just written reads back. -/
theorem timerOf_set {s : State} (h : sparseRising none s.tmu.timers = true) (n : Nat) (t : Timer) :
    timerOf (setTimerRecord n t s) n = t := sparseRead_write_same _ h n t

/-- Writing a call timer leaves the others alone. -/
theorem timerOf_set_other {m n : Nat} (h : m ≠ n) (t : Timer) (s : State) :
    timerOf (setTimerRecord n t s) m = timerOf s m := sparseRead_write_other _ h t

/-- An injection just written reads back. -/
theorem injectionOf_set {s : State} (h : sparseRising none s.hsu.injections = true) (n : Nat) (i : Injection) :
    injectionOf (setInjection n i s) n = i := sparseRead_write_same _ h n i

/-- Crosspoints in range have indices of their own (R2). -/
theorem crosspoint_injective {a b c d : Nat} (ha : 1 ≤ a) (hb : 1 ≤ b) (hb' : b ≤ 25) (hc : 1 ≤ c) (hd : 1 ≤ d)
    (hd' : d ≤ 25) (h : crosspoint a b = crosspoint c d) : a = c ∧ b = d := by
  unfold crosspoint at h
  omega

/-- A level just written reads back (R2). -/
theorem levelOf_set {s : State} (h : sparseRising none s.mix.levels = true) (source bus : Nat) (x : Level) :
    levelOf (setLevel source bus x s) source bus = x := sparseRead_write_same _ h _ x

/-- Writing a level leaves every other crosspoint alone (R2). -/
theorem levelOf_set_other {a b source bus : Nat} (x : Level) (s : State) (h : crosspoint a b ≠ crosspoint source bus) :
    levelOf (setLevel source bus x s) a b = levelOf s a b := sparseRead_write_other _ h x

end Sys2Proof.Machine
end

