-- ==== Sys2Proof/Tests/Slice0.lean ====
section
/-!
SUPPORT. Tests: commands that are not well-formed, one step each on a small state with results from the spec's own examples or
worked by hand, and for every statement with hypotheses a state that meets them.
-/

namespace Sys2Proof.Tests

open Sys2Proof Sys2Proof.Machine

set_option Elab.async false

/-! ### Well-formed commands -/

theorem test_wf_takes_requests :
    ([.go 255, .fire 0 ⟨65535, 255⟩, .setEventMask 0 16777215, .setZone 1 24 ⟨1, 8, -32768, 32767, 0⟩,
      .writePage 1 4294967295 (List.replicate 1024 0), .holdOn 0, .setCrosspoint 0 1 1 (-1536) 600000] : List Instr).all
        (fun i => i.wf) = true := by decide +kernel

theorem test_wf_refuses_wide_fields :
    ([.go 256, .setEventMask 0 16777216, .fire 0 ⟨65536, 0⟩, .fire 0 ⟨1, 256⟩, .locate 0 ⟨1, 0⟩ 256 0,
      .locate 0 ⟨1, 0⟩ 0 256, .setSequencer 0 256 0, .setSequencer 0 0 65536, .readCue 0 ⟨65536, 0⟩,
      .deleteCue 0 ⟨65536, 0⟩, .listCues 0 ⟨65536, 0⟩, .readSnapshot 0 256, .deleteSnapshot 0 256, .preflight 0 256,
      .readCrosspoint 0 256 0, .readCrosspoint 0 0 256, .readGovernor 0 256, .restartGovernor 0 256, .readPlayer 0 256,
      .setPlayer 0 4294967296, .readPage 0 4294967296, .eraseSector 0 4294967296, .readDirectoryEntry 0 65536,
      .verifyClip 0 65536, .readZone 0 256, .cancelPage 0 65536, .disarmTimer 0 256] : List Instr).all
        (fun i => !i.wf) = true := by decide +kernel

theorem test_wf_refuses_wide_levels_and_times :
    ([.setCrosspoint 0 256 0 0 0, .setCrosspoint 0 0 256 0 0, .setCrosspoint 0 0 0 32768 0,
      .setCrosspoint 0 0 0 (-32769) 0, .setCrosspoint 0 0 0 0 4294967296, .setBusMaster 0 256 0,
      .setBusMaster 0 0 32768, .play 0 256 0 0 0 0, .play 0 0 65536 0 0 0, .play 0 0 0 65536 0 0, .play 0 0 0 0 32768 0,
      .play 0 0 0 0 0 4294967296, .stopPlayer 0 256 0, .stopPlayer 0 0 4294967296] : List Instr).all
        (fun i => !i.wf) = true := by decide +kernel

/-- A cue body with one action. -/
def cueWith (w : Work) : CueBody := ⟨⟨1, 0⟩, false, 0, 0, 0, [⟨0, w⟩]⟩

theorem test_wf_refuses_cues :
    ([⟨⟨65536, 0⟩, false, 0, 0, 0, []⟩, ⟨⟨1, 0⟩, false, 256, 0, 0, []⟩, ⟨⟨1, 0⟩, false, 0, 4294967296, 0, []⟩,
      ⟨⟨1, 0⟩, false, 0, 0, 4294967296, []⟩, ⟨⟨1, 0⟩, false, 0, 0, 0, List.replicate 65 ⟨0, .mark 0⟩⟩,
      ⟨⟨1, 0⟩, false, 0, 0, 0, [⟨4294967296, .mark 0⟩]⟩,
      cueWith (.fade 256 0 0 0), cueWith (.fade 0 256 0 0), cueWith (.fade 0 0 32768 0), cueWith (.fade 0 0 0 4294967296),
      cueWith (.snap 256 0), cueWith (.snap 0 4294967296), cueWith (.play 256 0 0 0 0), cueWith (.play 0 65536 0 0 0),
      cueWith (.play 0 0 65536 0 0), cueWith (.play 0 0 0 32768 0), cueWith (.play 0 0 0 0 4294967296),
      cueWith (.stop 256 0), cueWith (.stop 0 4294967296), cueWith (.call 65536 (.zone 1) 2),
      cueWith (.call 0 (.groups 256) 2), cueWith (.call 0 (.zone 256) 2), cueWith (.call 0 (.invalid 1 0) 2),
      cueWith (.call 0 (.invalid 256 0) 2), cueWith (.call 0 (.invalid 2 256) 2), cueWith (.call 0 (.zone 1) 256),
      cueWith (.govern 256 0), cueWith (.govern 0 32768), cueWith (.timer 256 0 .eventOnly),
      cueWith (.timer 0 4294967296 .eventOnly), cueWith (.timer 0 0 (.call 65536 (.zone 1))),
      cueWith (.timer 0 0 (.call 0 (.zone 256))), cueWith (.timer 0 0 (.invalid 1 0 (.zone 1))),
      cueWith (.timer 0 0 (.invalid 256 0 (.zone 1))), cueWith (.timer 0 0 (.invalid 2 65536 (.zone 1))),
      cueWith (.timer 0 0 (.invalid 2 0 (.zone 256))), cueWith (.mark 256), cueWith (.unknown 7),
      cueWith (.unknown 256)] : List CueBody).all (fun b => !(Instr.writeCue 0 b).wf) = true := by decide +kernel

theorem test_wf_refuses_settings :
    ([.writeSnapshot 0 256 [], .writeSnapshot 0 0 (List.replicate 256 ⟨0, 0, 0⟩), .writeSnapshot 0 0 [⟨256, 0, 0⟩],
      .writeSnapshot 0 0 [⟨0, 256, 0⟩], .writeSnapshot 0 0 [⟨0, 0, 32768⟩],
      .setGovernor 0 256 ⟨0, 0, 0, 0, 0, 0, 0⟩, .setGovernor 0 0 ⟨256, 0, 0, 0, 0, 0, 0⟩,
      .setGovernor 0 0 ⟨0, 32768, 0, 0, 0, 0, 0⟩, .setGovernor 0 0 ⟨0, 0, 32768, 0, 0, 0, 0⟩,
      .setGovernor 0 0 ⟨0, 0, 0, 32768, 0, 0, 0⟩, .setGovernor 0 0 ⟨0, 0, 0, 0, 32768, 0, 0⟩,
      .setGovernor 0 0 ⟨0, 0, 0, 0, 0, 32768, 0⟩, .setGovernor 0 0 ⟨0, 0, 0, 0, 0, 0, 32768⟩,
      .setZone 0 256 ⟨0, 0, 0, 0, 0⟩, .setZone 0 0 ⟨256, 0, 0, 0, 0⟩, .setZone 0 0 ⟨0, 256, 0, 0, 0⟩,
      .setZone 0 0 ⟨0, 0, 32768, 0, 0⟩, .setZone 0 0 ⟨0, 0, 0, 32768, 0⟩, .setZone 0 0 ⟨0, 0, 0, 0, 32768⟩,
      .setPaging 0 ⟨256, 0, 0, 0, 0⟩, .setPaging 0 ⟨0, 32768, 0, 0, 0⟩, .setPaging 0 ⟨0, 0, 256, 0, 0⟩,
      .setPaging 0 ⟨0, 0, 0, 65536, 0⟩, .setPaging 0 ⟨0, 0, 0, 0, 65536⟩,
      .setLine 0 256 ⟨0, 0, 0⟩, .setLine 0 0 ⟨256, 0, 0⟩, .setLine 0 0 ⟨0, 256, 0⟩, .setLine 0 0 ⟨0, 0, 256⟩,
      .setStop 0 ⟨32768, 0, 0, 0, 0, 0⟩, .setStop 0 ⟨0, 65536, 0, 0, 0, 0⟩, .setStop 0 ⟨0, 0, 65536, 0, 0, 0⟩,
      .setStop 0 ⟨0, 0, 0, 65536, 0, 0⟩, .setStop 0 ⟨0, 0, 0, 0, 32768, 0⟩, .setStop 0 ⟨0, 0, 0, 0, 0, 32768⟩] :
      List Instr).all (fun i => !i.wf) = true := by decide +kernel

theorem test_wf_refuses_pages_timers_and_memory :
    ([.page 0 ⟨256, 0, 0, .zone 1⟩, .page 0 ⟨0, 256, 0, .zone 1⟩, .page 0 ⟨0, 0, 65536, .zone 1⟩,
      .page 0 ⟨0, 0, 0, .zone 256⟩, .armTimer 0 256 0 0 .eventOnly, .armTimer 0 0 256 0 .eventOnly,
      .armTimer 0 0 0 4294967296 .eventOnly, .armTimer 0 0 0 0 (.call 65536 (.zone 1)),
      .writePage 0 4294967296 (List.replicate 1024 0), .writePage 0 0 [],
      .writeDirectoryEntry 0 65536 ⟨0, 0, 0, 0, 0, 0, 0, 0⟩, .writeDirectoryEntry 0 0 ⟨256, 0, 0, 0, 0, 0, 0, 0⟩,
      .writeDirectoryEntry 0 0 ⟨0, 4294967296, 0, 0, 0, 0, 0, 0⟩, .writeDirectoryEntry 0 0 ⟨0, 0, 4294967296, 0, 0, 0, 0, 0⟩,
      .writeDirectoryEntry 0 0 ⟨0, 0, 0, 256, 0, 0, 0, 0⟩, .writeDirectoryEntry 0 0 ⟨0, 0, 0, 0, 256, 0, 0, 0⟩,
      .writeDirectoryEntry 0 0 ⟨0, 0, 0, 0, 0, 4294967296, 0, 0⟩,
      .writeDirectoryEntry 0 0 ⟨0, 0, 0, 0, 0, 0, 4294967296, 0⟩] : List Instr).all (fun i => !i.wf) = true := by decide +kernel

theorem test_wf_refuses_steps :
    ([.samplePeriod ⟨[], true⟩ .whole, .samplePeriod ⟨List.replicate 32 8388608, true⟩ .whole, .fadeEnd 0, .fadeEnd 129,
      .lineAssertion 5, .lineRelease 0, .debounceUnblock 5, .prewaitEnd 17, .actionFire 17 1, .actionFire 1 17,
      .postwaitExpiry 0, .playStart 9, .playEnd 0, .retriggerTailEnd 9, .holdTimerExpiry 0, .callTimerFire 9,
      .frameReceived ⟨1, 1, 0, List.replicate 1041 0, 0⟩ .whole] : List Instr).all (fun i => !i.wf) = true := by decide +kernel

/-- The table gives no row any bits, so no word spells a command (log entry 1). -/
theorem test_no_word_spells_a_command :
    decodeTableWord 16 0x4820 = none ∧ State.reset.withFetchWord 16 0x4820 = State.reset := by decide +kernel

/-- HOLD has three rows and one code: the action is in the body (R187). -/
theorem test_hold_body : requestCode (.hold 1) = 0x13 ∧ requestBody (.hold 1) = [1] := by decide +kernel

/-! ### Arithmetic -/

/-- R17's worked values. -/
theorem test_gain_codes : gainCode 0 = 4194304 ∧ gainCode 192 = 16697825 ∧ gainCode (-320) = 419430 := by decide +kernel

/-- R22's worked value: a peak of 501,187 reads -392; 133 is the least peak above the clamp. -/
theorem test_meter_levels :
    meterLevel 501187 = -392 ∧ meterLevel 8388608 = 0 ∧ meterLevel 0 = -1536 ∧ meterLevel 132 = -1536 := by decide +kernel

/-- R114's worked values: a full-scale sine measures -48, one at a tenth of it -368. -/
theorem test_window_levels :
    windowLevel (4800 * 2 ^ 45) = -48 ∧ windowLevel (4800 * 2 ^ 45 / 100) = -368 ∧ windowLevel 0 = -1536 := by decide +kernel

/-- R94's check value over the digits 1 to 9. -/
theorem test_crc : crcOf ((List.range' 0x31 9).map (BitVec.ofNat 8)) = 0x29B1#16 := by decide +kernel

/-- A fade from OFF runs from -960 and ends on its target exactly (R5, R12). -/
theorem test_fade_law : fadeLevel (-1536) 0 1000 500 = -480 ∧ fadeLevel (-1536) 0 1000 1000 = 0
    ∧ fadeLevel 0 (-1536) 1000 1000 = -1536 ∧ fadeLevel 0 (-100) 3 1 = -33 := by decide +kernel

/-! ### Small states -/

/-- The part in SETUP with no operation in the slot: what a start-up load leaves. -/
def ready : State := { State.reset with cmc := { ({} : Cmc) with slot := none } }

/-- A state that a command leaves, the given one where it stops. -/
def after (i : Instr) (s : State) : State :=
  match exec i s with
  | .next t => t
  | .fault _ => s
  | .refused _ => s

/-- The status of the last reply queued. -/
def statusOf (s : State) : Option Status := s.clink.replies.getLast?.map fun r => r.status

/-- A cue with a prewait of 100 ms and no actions. -/
def waitCue (number : Nat) : Cue := ⟨⟨number, 0⟩, false, 100, .none, 0, []⟩

/-- Cues 1 and 2 in the list, cue 1 standby. -/
def twoCues : State :=
  (ready.withCst { ready.cst with cues := [waitCue 1, waitCue 2] }).withSeq { ready.seq with standby := some 1 }

/-- A clip of one mono block at page 1024. -/
def clipA : DirEntry := ⟨1024, 1000, 1, none, 0⟩

/-- Clip 7 in the directory. -/
def withClip (s : State) : State := s.withCmc { s.cmc with directory := [(7, clipA)] }

theorem open_ready : LinkOpen ready := ⟨⟨rfl, rfl⟩, rfl⟩

theorem quiet_none {s : State} (h : s.seq.entries = []) : QuietSeq s := fun e he => by
  rw [h] at he
  cases he

theorem lowest_one {table : Sparse Entry} (h : sparseFind table 1 = none) : LowestFree table 1 :=
  ⟨Nat.le_refl 1, by decide, h, fun j h1 h2 => absurd h1 (Nat.not_le_of_lt h2)⟩

/-- A state with one entry, in slot 16. -/
def running (e : Entry) : State := twoCues.withSeq { twoCues.seq with entries := [(16, e)] }

/-- Cue 1 on standby while `n` other cues run, in the slots from 1 on. -/
def crowd (n : Nat) : State := twoCues.withSeq { twoCues.seq with
  entries := (List.range' 1 n).map fun k => (k, Entry.initial (waitCue (100 + k)) .link none) }

/-! ### One step each -/

theorem test_power_on_starts_the_load :
    loading (after (.powerOn ⟨true, false, some 4096⟩) ready) = true
      ∧ (after (.powerOn ⟨true, false, some 4096⟩) ready).clink.rate = 1
      ∧ (after (.powerOn ⟨true, false, some 4096⟩) ready).cmc.capacity = 4096 := by decide +kernel

theorem test_identify : (after (.identify 9) ready).clink.replies
    = [⟨0x01, 9, .ok, [.u16 0x4820, .u8 1, .u16 1, .u32 1048576, .u8 0]⟩] := by decide +kernel

theorem test_load_refuses_go : statusOf (after (.go 1) State.reset) = some .busy := by decide +kernel

theorem test_go_fires : (after (.go 1) twoCues).seq.entries.map (fun e => (e.1, e.2.cue.number)) = [(1, ⟨1, 0⟩)]
    ∧ (after (.go 1) twoCues).seq.standby = some 2 ∧ (after (.go 1) twoCues).seq.lockout = 250
    ∧ statusOf (after (.go 1) twoCues) = some .ok := by decide +kernel

theorem test_go_under_lockout : statusOf (after (.go 2) (after (.go 1) twoCues)) = some .lockout := by decide +kernel

theorem test_go_at_the_end : statusOf (after (.go 1) ready) = some .endOfList := by decide +kernel

theorem test_fire_leaves_standby : (after (.fire 1 ⟨2, 0⟩) twoCues).seq.standby = some 1
    ∧ (after (.fire 1 ⟨2, 0⟩) twoCues).seq.entries.map (fun e => e.2.origin) = [.fire] := by decide +kernel

theorem test_locate_at_or_before : (after (.locate 1 ⟨9, 0⟩ 2 0) twoCues).seq.standby = some 2 := by decide +kernel

theorem test_set_sequencer_clamps : (after (.setSequencer 1 0 3000) ready).seq.lockoutSetting = 2000
    ∧ statusOf (after (.setSequencer 1 0 3000) ready) = some .okClamped := by decide +kernel

theorem test_enter_show_needs_clean : statusOf (after (.enterShow 1) ready) = some .notClean
    ∧ (after (.enterShow 1) (setClean true ready)).seq.showState = .inShow := by decide +kernel

theorem test_show_locks_edits :
    statusOf (after (.deleteCue 1 ⟨1, 0⟩) (after (.enterShow 0) (setClean true twoCues))) = some .locked := by
  decide +kernel

theorem test_reset_show : (after (.resetShow 2) (after (.go 1) twoCues)).seq.entries = []
    ∧ (after (.resetShow 2) (after (.go 1) twoCues)).seq.standby = some 1 := by decide +kernel

theorem test_write_cue_in_order :
    ((after (.writeCue 1 ⟨⟨1, 5⟩, false, 0, 0, 0, []⟩) twoCues).cst.cues.map fun c => c.number)
      = [⟨1, 0⟩, ⟨1, 5⟩, ⟨2, 0⟩] := by decide +kernel

theorem test_delete_standby_cue : (after (.deleteCue 1 ⟨1, 0⟩) twoCues).seq.standby = some 1
    ∧ standbyNumber (after (.deleteCue 1 ⟨1, 0⟩) twoCues) = some ⟨2, 0⟩ := by decide +kernel

theorem test_running_cue_is_in_use : statusOf (after (.deleteCue 2 ⟨1, 0⟩) (after (.go 1) twoCues)) = some .inUse := by
  decide +kernel

theorem test_write_snapshot_clamps :
    (after (.writeSnapshot 1 3 [⟨1, 1, 500⟩]) ready).cst.snapshots = [(3, [⟨1, 1, 192⟩])]
      ∧ statusOf (after (.writeSnapshot 1 3 [⟨1, 1, 500⟩]) ready) = some .okClamped := by decide +kernel

theorem test_delete_absent_snapshot : statusOf (after (.deleteSnapshot 1 3) ready) = some .notFound := by decide +kernel

theorem test_preflight_is_accepted : statusOf (after (.preflight 1 0) twoCues) = some .accepted
    ∧ (after (.preflight 1 0) twoCues).cst.report.status = .running := by decide +kernel

theorem test_set_crosspoint : levelOf (after (.setCrosspoint 1 2 3 (-40) 0) ready) 2 3 = -40 := by decide +kernel

theorem test_fade_from_off_lifts_at_once : levelOf (after (.setCrosspoint 1 2 3 0 1000) ready) 2 3 = -960
    ∧ (after (.setCrosspoint 1 2 3 0 1000) ready).mix.slots.map (·.1) = [1] := by decide +kernel

theorem test_bus_out_of_range : statusOf (after (.setBusMaster 1 26 0) ready) = some .outOfRange := by decide +kernel

theorem test_set_governor_hunts :
    (governorOf (after (.setGovernor 1 12 ⟨1, -300, 16, 32, -384, 96, -48⟩) ready) 12).state = .hunting
      ∧ statusOf (after (.setGovernor 1 12 ⟨1, -300, 200, 32, -384, 96, -48⟩) ready) = some .okClamped := by decide +kernel

theorem test_play_loads : (playerOf (after (.play 1 8 7 1 0 0) (withClip ready)) 8).state = .loading
    ∧ (after (.play 1 8 7 1 0 0) (withClip ready)).cmc.transfer = some ⟨.player 8, .blockRead 1024, 0, 0, true⟩ := by
  decide +kernel

theorem test_play_absent_clip : statusOf (after (.play 1 8 7 1 0 0) ready) = some .notFound := by decide +kernel

/-- One block is the start threshold of a clip of one block, so its arrival starts the play (R74, R79). -/
theorem test_block_starts_the_play :
    (playerOf (after (.transferComplete false .whole) (after (.play 1 8 7 1 0 0) (withClip ready))) 8).state = .playing := by
  decide +kernel

theorem test_hold_waits_for_the_boundary : (after (.holdOn 1) ready).hsu.holdRequest = true
    ∧ (after (.holdOn 1) ready).hsu.holdEffective = false := by decide +kernel

theorem test_page_starts : ((after (.page 1 ⟨2, 1, 7, .zone 24⟩) (withClip ready)).rpu.active.map fun a => a.zoneSet)
      = some [24]
    ∧ statusOf (after (.page 1 ⟨2, 1, 7, .zone 24⟩) (withClip ready)) = some .ok := by decide +kernel

theorem test_talk_from_the_link_needs_live : statusOf (after (.page 1 ⟨1, 1, 7, .zone 24⟩) (withClip ready))
    = some .outOfRange := by decide +kernel

theorem test_arm_timer_now_fires_late : (timerOf (after (.armTimer 1 8 0 0 .eventOnly) ready) 8).state = .fired
    ∧ (timerOf (after (.armTimer 1 8 0 0 .eventOnly) ready) 8).late = true := by decide +kernel

theorem test_set_line_restarts_the_debouncer :
    (lineOf (after (.setLine 1 1 ⟨0, 1, 0⟩) ready) 1).debounce = 2
      ∧ statusOf (after (.setLine 1 1 ⟨0, 1, 1⟩) ready) = some .outOfRange := by decide +kernel

theorem test_write_page_of_the_show_region : statusOf (after (.writePage 1 1023 (List.replicate 1024 0)) ready)
    = some .outOfRange := by decide +kernel

theorem test_take_event_lowest_first :
    (chosenEvent (raiseEvent .showStop 0 [1] (raiseEvent .link 1 [0] ready))).map (·.1) = some 32 := by decide +kernel

theorem test_masked_kind : (raiseEvent .link 1 [0] (after (.setEventMask 1 0x20000) ready)).attn = false := by
  decide +kernel

theorem test_unknown_code_is_answered : (after (.frameReceived
    (let f : Frame := ⟨1, 0x7F, 3, [], 0⟩; { f with crc := crcOf (frameCovered f) }) .whole) ready).clink.replies
      = [⟨0x7F, 3, .unknownRequest, []⟩] := by decide +kernel

theorem test_bad_crc_is_answered : (after (.frameReceived ⟨1, 0x02, 3, [], 0⟩ .whole) ready).clink.replies
    = [⟨0, 0, .frameError, []⟩] := by decide +kernel

theorem test_gap_breaks_a_frame : (after .frameGapTimeout
    (ready.withClink { ready.clink with hunter := ⟨.header, 4, [4, 0, 1]⟩, gap := 11 })).clink.errors = 1 := by
  decide +kernel

/-- A boundary with the HOLD line asserted (it is active low) counts its debouncer and the clock. -/
theorem test_boundary_counts : (after (.millisecondBoundary ⟨true, false, true, true⟩ {} .whole) ready).tmu.clock = 1
    ∧ (lineOf (after (.millisecondBoundary ⟨true, false, true, true⟩ {} .whole) ready) 2).state = .blocked := by
  decide +kernel

theorem test_hold_is_published_at_the_boundary :
    (after (.millisecondBoundary ⟨true, true, true, true⟩ {} .whole) (after (.holdOn 1) ready)).hsu.holdEffective
      = true := by decide +kernel

/-- The selector goes FREE at the 48th period without an edge, stays LOCKED when one comes before, and is restored at the
edge after 100 ms of presence (R163). -/
theorem test_clock_is_lost_and_restored :
    let seen (edge : Bool) (s : State) : Tmu := (after (.samplePeriod ⟨List.replicate 32 0, edge⟩ .whole) s).tmu
    let locked (n : Nat) : State := ready.withTmu { ready.tmu with judged := true, locked := true, absence := n }
    let free (n : Nat) : State := ready.withTmu { ready.tmu with judged := true, present := true, presence := n }
    (seen false (locked 46)).locked = true ∧ (seen false (locked 47)).locked = false ∧ (seen true (locked 47)).absence = 0
      ∧ (seen true (free 4799)).locked = false ∧ (seen true (free 4800)).locked = true
      ∧ (seen false (free 4799)).presence = 0 := by decide +kernel

/-- The first judgement is LOCKED when no edge was missed since reset, FREE otherwise (R164). -/
theorem test_first_judgement :
    (judgeClock (ready.withTmu { ready.tmu with present := true, presence := 47 })).tmu.locked = true
      ∧ (judgeClock (countValid (countMissing ready))).tmu.locked = false := by decide +kernel

/-- The lockout remaining is a time of 32 bits (R66, R187). -/
theorem test_running_lockout : ((after (.readRunning 1) (after (.go 1) twoCues)).clink.replies.getLast?.bind
    fun r => r.contents[4]?) = some (.u32 250) := by decide +kernel

/-- A ramp in toward code 0 ramps out when show stop ends (R155). -/
theorem test_ramp_out : injectionOf (rampOut 1 (ready.withHsu { ready.hsu with
    injections := [(1, ⟨0, some ⟨0, 0, 5, true⟩⟩)] })) 1 = ⟨0, some ⟨0, 0, 0, false⟩⟩ := by decide +kernel

/-! ### Witnesses: the hypotheses of the statements are met -/

theorem witness_resets : (∀ x, ready.cmc.transfer = some x → x.extent.writes = false) ∧ saveCut ready = false
    ∧ (⟨true, true, some (2048 * 2 ^ 0)⟩ : ResetInputs).flashPages = some (2048 * 2 ^ 0)
    ∧ (⟨true, true, some (2048 * 2 ^ 9)⟩ : ResetInputs).flashPages = some (2048 * 2 ^ 9)
    ∧ (⟨true, true, none⟩ : ResetInputs).flashPages = none ∧ LinkOpen ready := by
  refine ⟨?_, ?_⟩
  · intro x h
    cases h
  · unfold LinkOpen LinkReady
    decide +kernel

/-- A save whose last page is being programmed. -/
def savingLast : State := ready.withCmc { ready.cmc with
  slot := some (.saveShow [] (.program 0)), transfer := some ⟨.link, .pageProgram 0 [], 0, 1, true⟩ }

theorem witness_save_cut : FlashLaw savingLast ∧ saveCut savingLast = true
    ∧ resetDue (ready.withClink { ready.clink with resetTaken := true }) = true := by
  unfold FlashLaw
  decide +kernel

/-- A sound show region never stays sound through a cut save (R110; log entry 36). -/
theorem test_torn_flash :
    let covered : List Byte := [0x56, 0x5A, 0x34, 0x38, 1, 0, 17, 0, 0, 0, 0, 0, 0, 0, 0]
    let m := flashProgram [] 0 (covered ++ bytesOf 2 (crcOf covered).toNat)
    regionSound m = true ∧ regionSound (tornFlash m m) = false := by decide +kernel

theorem witness_body_and_row :
    requestFits (.setCrosspoint 48 25 (-1536) 600000) = true
      ∧ requestOf (.setCrosspoint 255 48 25 (-1536) 600000) = some (255, .setCrosspoint 48 25 (-1536) 600000)
      ∧ (Instr.setCrosspoint 255 48 25 (-1536) 600000).wf = true := by decide +kernel

theorem witness_bytes_make_the_frame :
    let full := ready.withClink { ready.clink with
      queue := [.frameError], replies := [⟨1, 1, .ok, []⟩, ⟨1, 1, .ok, []⟩] }
    (⟨2, 0xC5, 9, List.replicate 1040 0xC5, 0⟩ : Frame).body.length ≤ 1040 ∧ ready.clink.hunter.phase = .hunting
      ∧ ready.clink.queue = [] ∧ full.clink.hunter.phase = .hunting ∧ mayTake full.clink = false := by decide +kernel

/-- The second length byte is due, with so many items waiting. -/
def lengthDue (low : Byte) (items : Nat) : State := ready.withClink { ready.clink with
  hunter := ⟨.length, 0, [low]⟩, queue := List.replicate items .frameError }

theorem witness_partial_frames :
    let gap := ready.withClink { ready.clink with hunter := ⟨.header, 4, [4, 0, 1]⟩, gap := 11 }
    gap.clink.hunter.phase ≠ .hunting ∧ 11 ≤ gap.clink.gap
      ∧ 1040 < ((lengthDue 0x11 3).clink.hunter.bytes.headD 0).toNat + 256 * (4#8).toNat
      ∧ ((lengthDue 0x10 3).clink.hunter.bytes.headD 0).toNat + 256 * (4#8).toNat = 1040
      ∧ (lengthDue 0x11 3).clink.queue.length < 4 ∧ 4 ≤ (lengthDue 0x11 4).clink.queue.length := by decide +kernel

theorem witness_frame_branches :
    let sound := requestFrameOf 3 .status
    1040 < ({ sound with body := List.replicate 1041 0 } : Frame).body.length
      ∧ crcOf (frameCovered { sound with tag := 4 }) ≠ sound.crc
      ∧ (let f : Frame := { sound with kind := 2 }; ({ f with crc := crcOf (frameCovered f) } : Frame).kind ≠ 1)
      ∧ crcOf (frameCovered sound) = sound.crc ∧ sound.kind = 1 ∧ sound.body.length ≤ 1040
      ∧ (lengthDue 0 4).clink.queue.length = 4 := by decide +kernel

theorem witness_items :
    mayTake ready.clink = true ∧ mayTake { ready.clink with queue := [.frameError] } = true
      ∧ mayTake { ready.clink with queue := [.request 3 false (.unknown 0x7F)] } = true
      ∧ ({ ready.clink with replies := [⟨1, 2, .ok, []⟩] } : Clink).replies = ⟨1, 2, .ok, []⟩ :: [] := by decide +kernel

theorem witness_load : LinkReady State.reset ∧ loading State.reset = true
    ∧ requestOf (.status 4) = some (4, .status) ∧ requestOf (.go 4) = some (4, .go) := ⟨⟨rfl, rfl⟩, rfl, rfl, rfl⟩

/-- The HOLD line one sample before its assertion and the STOP line one before its release. -/
def linesNearlyDue : State :=
  setLineRecord 3 { ({} : Line) with debounce := 2, state := .asserted, count := 1 }
    (setLineRecord 2 { ({} : Line) with debounce := 2, state := .released, count := 1 } ready)

theorem witness_boundary_counts : ({} : BoundaryOrder).linesFirst = false
    ∧ ({ linesFirst := true } : BoundaryOrder).linesFirst = true ∧ sparseRising none linesNearlyDue.tmu.lines = true
    ∧ ((lineOf linesNearlyDue 2).sample false).debounce ≤ ((lineOf linesNearlyDue 2).sample false).count
    ∧ ((lineOf linesNearlyDue 3).sample true).debounce ≤ ((lineOf linesNearlyDue 3).sample true).count
    ∧ QuietSeq linesNearlyDue ∧ sparseRising none linesNearlyDue.ply.players = true := by
  unfold QuietSeq
  decide +kernel

/-- Cues in PREWAIT, ACTIVE and DONE, the last two with a postwait that runs, and a lockout of 1 ms; a zone 1 ms before the end
of its release; a page with 1 ms of its attack left. -/
def tableCounting : State :=
  (linesNearlyDue.withSeq { twoCues.seq with
    lockout := 1
    entries := [(1, { Entry.initial (waitCue 1) .link none with prewait := 1 }),
      (2, { Entry.initial (waitCue 2) .link none with phase := .active, elapsed := 599999, postwait := .running 2 }),
      (16, { Entry.initial (waitCue 3) .link none with phase := .done, elapsed := 600000, postwait := .running 0 })] }).withRpu
    { ready.rpu with
      active := some ⟨⟨9, .call, .clip 7, 1, [], .link, false, false, false⟩, [1, 2, 3], some 1⟩
      zones := [(24, { Zone.initial 24 with duck := ⟨-3, some ⟨-320, 0, 100, 99⟩⟩ })] }

theorem witness_table_counting : QuietSeq tableCounting ∧ sparseRising none tableCounting.tmu.lines = true
    ∧ sparseRising none tableCounting.rpu.zones = true ∧ sparseRising none tableCounting.ply.players = true
    ∧ tableCounting.seq.entries.map (fun e => e.2.phase) = [.prewait, .active, .done]
    ∧ (zoneOf tableCounting 24).duck.run = some ⟨-320, 0, 100, 99⟩ ∧ (tableCounting.rpu.active.map fun a => a.attack) = some (some 1)
    ∧ (tableCounting.withHsu { ready.hsu with holdRequest := true }).seq = tableCounting.seq := by
  unfold QuietSeq
  decide +kernel

/-- A boundary counts the table down outside hold, and under hold the lockout alone (R51, R60, R63, R65). -/
theorem test_boundary_counts_the_table :
    let i : Instr := .millisecondBoundary ⟨true, false, true, true⟩ {} .split
    let t := after i tableCounting
    let held := after i (tableCounting.withHsu { ready.hsu with holdRequest := true })
    t.seq.entries.map (fun e => (e.2.prewait, e.2.elapsed, e.2.postwait))
        = [(0, 0, .absent), (100, 600000, .running 1), (100, 600000, .running 0)]
      ∧ held.seq.entries = tableCounting.seq.entries ∧ held.seq.lockout = 0
      ∧ (zoneOf t 24).duck = ⟨0, none⟩ ∧ (t.rpu.active.map fun a => a.attack) = some (some 0) := by decide +kernel

/-- A page of a class, number 9, active on zones 1 and 2, for TALK held by the link. -/
def talking (cls : PageClass) : State :=
  (withClip ready).withRpu { ready.rpu with
    active := some ⟨⟨9, cls, .live, 0, [1, 2], .link, false, true, false⟩, [1, 2], none⟩
    zones := [(1, { Zone.initial 1 with inPage := true, paged := true })] }

/-- Every zone disabled. -/
def noZones : State := ready.withRpu { ready.rpu with
  zones := (List.range' 1 24).map fun z => (z, { Zone.initial z with enabled := false }) }

theorem witness_show_stop :
    let starts := (talking .talk).withHsu { ready.hsu with stopRequest := true }
    let mute := noZones.withHsu { ready.hsu with stopLine := true }
    let ends := (talking .stop).withHsu { ready.hsu with
      stopActive := true, holdEffective := true
      injections := [(1, ⟨0, some ⟨0, 0, 3, true⟩⟩), (2, ⟨7, none⟩), (20, ⟨7, some ⟨9, 0, 3, false⟩⟩)] }
    QuietSeq starts ∧ QuietSeq mute ∧ QuietSeq ends ∧ sparseRising none starts.rpu.zones = true ∧ starts.hsu.stopActive = false
      ∧ (starts.hsu.stopLine || starts.hsu.stopRequest) = true ∧ zonesSelected starts 255 [] ≠ []
      ∧ (∀ a ∈ starts.rpu.active.toList, a.page.cls ≠ .stop) ∧ starts.rpu.queue = []
      ∧ sparseRising none mute.rpu.zones = true ∧ zonesSelected mute 255 [] = [] ∧ mute.rpu.active = none
      ∧ ends.hsu.stopActive = true ∧ (ends.hsu.stopLine || ends.hsu.stopRequest) = false
      ∧ (∀ a ∈ ends.rpu.active.toList, a.page.cls = .stop ∧ a.zoneSet.Nodup) ∧ ends.rpu.queue = [] := by
  unfold QuietSeq
  decide +kernel

theorem witness_clock_and_hold : exec (.go 1) ready = .next (after (.go 1) ready)
    ∧ ∀ inp o k, (.go 1 : Instr) ≠ .millisecondBoundary inp o k := ⟨rfl, fun _ _ _ h => by cases h⟩

/-- A fade on crosspoint (2, 3), half a second into a second. -/
def fading : State :=
  ready.withMix { ready.mix with slots := [(1, ⟨2, 3, -1536, 0, 1000, 500, .none⟩)], levels := [(27, -480)] }

theorem fadeLaw_fading : FadeLaw fading := by unfold FadeLaw; decide +kernel

theorem witness_fades_advance : QuietSeq fading ∧ FadeLaw fading
    ∧ (∀ f ∈ fading.mix.slots, 1 ≤ f.2.source ∧ 1 ≤ f.2.bus ∧ f.2.bus ≤ 25 ∧ f.2.elapsed < f.2.duration)
    ∧ sparseRising none fading.mix.levels = true := ⟨quiet_none rfl, fadeLaw_fading, by decide +kernel, rfl⟩

/-- Crosspoint (48, 25) at -100 dB times ten, its master at a level. -/
def mastered (m : Level) : State := ready.withMix { ready.mix with levels := [(1199, -1000)], masters := [(25, m)] }

theorem witness_gain : levelOf ready 48 25 = off ∧ masterOf (mastered off) 25 = off
    ∧ levelOf (mastered (-536)) 48 25 + busAdjustment (mastered (-536)) 25 ≤ off
    ∧ levelOf (mastered (-535)) 48 25 ≠ off ∧ masterOf (mastered (-535)) 25 ≠ off
    ∧ off < levelOf (mastered (-535)) 48 25 + busAdjustment (mastered (-535)) 25
    ∧ QuietSeq ready ∧ sparseRising none ready.mix.codes = true := by
  unfold QuietSeq
  decide +kernel

theorem witness_sample_period : (List.replicate 32 (0 : Int)).length = 32 ∧ QuietSeq ready
    ∧ sparseRising none ready.fbg.sums = true
    ∧ sparseRising none ready.mix.codes = true ∧ sparseRising none ready.mix.meters = true
    ∧ sparseRising none ready.ply.players = true ∧ sparseRising none ready.rpu.zones = true
    ∧ sparseRising none ready.hsu.injections = true ∧ (zoneOf ready 24).enabled = true
    ∧ (zoneOf noZones 24).enabled = false ∧ sparseRising none noZones.rpu.zones = true := by
  unfold QuietSeq
  decide +kernel

/-- Full scale under +12 dB is limited, its clip counted and raised, and a foldback bus's square measured (R19, R20, R114). -/
theorem test_bus_clips :
    let loud := ready.withMix { ready.mix with
      codes := [(crosspoint 1 1, ⟨16697825, 16697825⟩), (crosspoint 1 9, ⟨4194304, 4194304⟩)] }
    let t := after (.samplePeriod ⟨8388607 :: List.replicate 31 0, true⟩ .split) loud
    (meterOf t 1).clips = 1 ∧ (sparseFind t.evr.slots (17 * 32 + 1)).isSome = true
      ∧ sparseRead 0 t.fbg.sums 1 = 8388607 ^ 2 ∧ sparseRead 0 t.fbg.sums 2 = 0 := by decide +kernel

theorem witness_clock_rows :
    let locked := ready.withTmu { ready.tmu with judged := true, locked := true, absence := 48 }
    let free := ready.withTmu { ready.tmu with judged := true, present := true, presence := 4800 }
    locked.tmu.locked = true ∧ 48 ≤ locked.tmu.absence ∧ locked.tmu.judged = true
      ∧ free.tmu.locked = false ∧ 4800 ≤ free.tmu.presence ∧ ready.tmu.judged = false
      ∧ QuietSeq ready ∧ ready.ply.players = [] ∧ ready.rpu.active = none := by
  unfold QuietSeq
  decide +kernel

/-- Line `n` in a state with its count at its debounce. -/
def lineAt_ (n : Nat) (state : LineState) : State := setLineRecord n { ({} : Line) with state := state, count := 10 } ready

theorem witness_lines : ∀ n, 1 ≤ n → n ≤ 4 →
    (lineOf (lineAt_ n .released) n).debounce ≤ (lineOf (lineAt_ n .released) n).count
      ∧ (lineOf (lineAt_ n .released) n).state = .released ∧ (lineOf (lineAt_ n .asserted) n).state = .asserted
      ∧ (lineOf (lineAt_ n .blocked) n).state = .blocked
      ∧ (lineOf (lineAt_ n .asserted) n).debounce ≤ (lineOf (lineAt_ n .asserted) n).count
      ∧ (lineOf (lineAt_ n .blocked) n).debounce ≤ (lineOf (lineAt_ n .blocked) n).count := by
  intro n h1 h4
  interval_cases n <;> decide +kernel

/-- The TALK line due for release while a page of a class with these holders is active. -/
def talkReleasing (cls : PageClass) (line link : Bool) : State :=
  (lineAt_ 4 .asserted).withRpu { ready.rpu with
    active := some ⟨⟨9, cls, .live, 255, [], .line, line, link, false⟩, [1, 24], none⟩ }

theorem witness_talk_release : ∀ cls line link,
    (lineOf (talkReleasing cls line link) 4).state = .asserted
      ∧ (lineOf (talkReleasing cls line link) 4).debounce ≤ (lineOf (talkReleasing cls line link) 4).count
      ∧ (∃ a, (talkReleasing cls line link).rpu.active = some a ∧ a.page.cls = cls ∧ a.page.heldByLine = line
          ∧ a.page.heldByLink = link ∧ a.zoneSet.Nodup)
      ∧ (talkReleasing cls line link).rpu.queue = [] ∧ (lineAt_ 4 .asserted).rpu.active = none
      ∧ sparseRising none (talkReleasing cls line link).rpu.zones = true :=
  fun _ _ _ => ⟨rfl, Nat.le_refl 10, ⟨_, rfl, rfl, rfl, rfl, (by decide : ([1, 24] : List Nat).Nodup)⟩, rfl, rfl, rfl⟩

/-- A governor of target -4.8 dB in a state, with a ceiling. -/
def judge (st : GovState) (ceiling : Level) : Governor :=
  { ({} : Governor) with state := st, enable := true, target := -48, settings := { ({} : GovSettings) with ceiling := ceiling } }

/-- The end of a window in which buses 9 to 19 stood at -4.8 dB and bus 20 was silent. -/
def windowDue (governors : Sparse Governor) : State :=
  ready.withFbg { governors, windowMs := 100, sums := (List.range' 1 11).map fun n => (n, 4800 * 2 ^ 45) }

/-- Governors under the ceiling: in the band, first and third window, beyond it, converged near and far, stalled, gated. -/
def quietWindow : State := windowDue
  [(1, judge .hunting 0), (2, { judge .hunting 0 with inBand := 2 }), (3, { judge .hunting 0 with target := 0, settle := 63 }),
    (4, { judge .converged 0 with target := -16 }), (5, { judge .converged 0 with target := -15 }), (6, judge .stalled 0),
    (7, { judge .gated 0 with gatedFrom := some .converged }), (8, { judge .hunting 0 with discard := true }),
    (9, judge .frozen 0), (12, judge .stalled 0)]

/-- Governors over the ceiling in each state that judges. -/
def loudWindow : State := windowDue
  [(1, judge .hunting (-49)), (2, { judge .hunting (-49) with settle := 63 }), (3, judge .converged (-49)),
    (4, judge .stalled (-49)), (5, judge .frozen (-49)), (6, { judge .converged (-49) with discard := true })]

theorem witness_window_end : sparseRising none quietWindow.fbg.governors = true ∧ 100 ≤ quietWindow.fbg.windowMs
    ∧ sparseRising none loudWindow.fbg.governors = true ∧ 100 ≤ loudWindow.fbg.windowMs
    ∧ windowLevel (sparseRead 0 quietWindow.fbg.sums 1) = -48 ∧ windowLevel (sparseRead 0 quietWindow.fbg.sums 12) < -960
    ∧ (governorOf quietWindow 1).state = .hunting ∧ (governorOf quietWindow 2).inBand = 2
    ∧ (governorOf quietWindow 4).state = .converged ∧ (governorOf quietWindow 6).state = .stalled
    ∧ (governorOf quietWindow 7).gatedFrom = some .converged ∧ (governorOf quietWindow 8).discard = true
    ∧ (governorOf quietWindow 9).state = .frozen ∧ (governorOf quietWindow 10).state = .off
    ∧ freezeCondition quietWindow 9 = false ∧ (governorOf loudWindow 1).settings.ceiling < -48
    ∧ (governorOf loudWindow 6).discard = true ∧ ready.fbg.windowMs < 100 := by decide +kernel

/-- The band of ±1 dB holds at its edge, twice of it for a converged governor, and the 64th window stalls (R116 to R118). -/
theorem test_window_end :
    let q := after .governorWindowEnd quietWindow
    let l := after .governorWindowEnd loudWindow
    ((governorOf q 2).state, (governorOf q 3).state, (governorOf q 4).state, (governorOf q 5).state, (governorOf q 12).state)
        = (.converged, .stalled, .converged, .hunting, .gated)
      ∧ ((governorOf l 1).trim, (governorOf l 2).state, (governorOf l 3).rehunt, (governorOf l 6).trim)
        = (-32, .stalled, true, -32) := by decide +kernel

theorem witness_enter_show : LinkOpen ready ∧ ready.cmc.slot = none ∧ ready.cst.clean = false
    ∧ LinkOpen (setClean true ready) ∧ (setClean true ready).cst.clean = true
    ∧ LinkOpen (after (.preflight 1 0) ready) ∧ (after (.preflight 1 0) ready).cmc.slot ≠ none := by
  unfold LinkOpen LinkReady
  decide +kernel

/-- SHOW, two cues, cue 1 standby. -/
def inShowTwo : State := twoCues.withSeq { twoCues.seq with showState := .inShow }

theorem witness_show_law : ShowLaw inShowTwo ∧ exec (.go 1) inShowTwo = .next (after (.go 1) inShowTwo)
    ∧ (after (.go 1) inShowTwo).seq.showState = .inShow ∧ inShowTwo.seq.showState = .inShow
    ∧ ShowLaw (setClean true ready) ∧ (after (.enterShow 1) (setClean true ready)).seq.showState = .inShow
    ∧ (setClean true ready).seq.showState = .setup := by
  refine ⟨⟨?_, ?_⟩, rfl, by decide +kernel, rfl, ⟨?_, ?_⟩, by decide +kernel, rfl⟩
  · intro t h; cases h
  · intro _; exact ⟨rfl, fun o h => by cases h⟩
  · intro t h; cases h
  · intro h; cases h

/-- The GO line due for assertion. -/
def goLineDue (s : State) : State := setLineRecord 1 { ({} : Line) with state := .released, count := 10 } s

theorem witness_go : LinkOpen twoCues ∧ twoCues.hsu.holdEffective = false ∧ twoCues.seq.lockout = 0
    ∧ twoCues.seq.standby = some 1 ∧ cueAt twoCues 1 = some (waitCue 1) ∧ (waitCue 1).cut = false
    ∧ twoCues.tmu.goRecord.length ≤ 32 ∧ TableLaw twoCues ∧ sparseRising none twoCues.ply.players = true
    ∧ LowestFree (tableWithout twoCues ⟨1, 0⟩) 1 ∧ (lineOf (goLineDue twoCues) 1).state = .released
    ∧ (lineOf (goLineDue twoCues) 1).debounce ≤ (lineOf (goLineDue twoCues) 1).count
    ∧ QuietSeq twoCues ∧ (waitCue 1).Waits ∧ ({ waitCue 1 with prewait := 0, actions := [⟨1, .mark 0⟩] } : Cue).Waits := by
  refine ⟨⟨⟨rfl, rfl⟩, rfl⟩, rfl, rfl, rfl, rfl, rfl, by decide, ?_, rfl, lowest_one rfl, rfl, by decide +kernel,
    quiet_none rfl, Or.inl (by decide), Or.inr ?_⟩
  · unfold TableLaw
    decide +kernel
  · decide

/-- The standby cue runs already, in slot 16. -/
def again : State := running (Entry.initial (waitCue 1) .link none)

theorem witness_go_again : again.seq.standby = some 1 ∧ entryRunning again ⟨1, 0⟩ = some 16 ∧ QuietSeq again
    ∧ TableLaw again ∧ LowestFree (tableWithout again ⟨1, 0⟩) 1 := by
  refine ⟨rfl, rfl, ?_, ?_, lowest_one rfl⟩
  · unfold QuietSeq
    decide +kernel
  · unfold TableLaw
    decide +kernel

/-- The last slot is free, and none is. -/
theorem witness_go_in_a_crowd : (crowd 15).seq.standby = some 1 ∧ entryRunning (crowd 15) ⟨1, 0⟩ = none ∧ QuietSeq (crowd 15)
    ∧ TableLaw (crowd 15) ∧ LowestFree (tableWithout (crowd 15) ⟨1, 0⟩) 16
    ∧ LinkOpen (crowd 16) ∧ cueAt (crowd 16) 1 = some (waitCue 1) ∧ entryRunning (crowd 16) ⟨1, 0⟩ = none
    ∧ (crowd 16).hsu.holdEffective = false ∧ (crowd 16).seq.lockout = 0
    ∧ (∀ k, 1 ≤ k → k ≤ 16 → sparseFind (crowd 16).seq.entries k ≠ none) := by
  refine ⟨rfl, rfl, ?_, ?_, ⟨by decide, by decide, by decide +kernel, ?_⟩, ⟨⟨rfl, rfl⟩, rfl⟩, rfl, rfl, rfl, rfl, ?_⟩
  · unfold QuietSeq
    decide +kernel
  · unfold TableLaw
    decide +kernel
  · intro j h1 h2
    interval_cases j <;> decide +kernel
  · intro k h1 h2
    interval_cases k <;> decide +kernel

/-- A cue fired again leaves one entry and no CUE_DONE (R54). -/
theorem test_go_again :
    (after (.go 1) again).seq.entries.map (fun e => e.1) = [1]
      ∧ (after (.go 1) again).evr.slots.map (fun e => e.1) = [12 * 32] := by decide +kernel

/-- A GO of the line fires with origin LINE (R167). -/
theorem test_go_line : (after (.lineAssertion 1) (goLineDue twoCues)).seq.entries.map (fun e => e.2.origin) = [.line]
    ∧ statusOf (after (.go 1) (crowd 16)) = some .full := by decide +kernel

theorem witness_go_refused_and_passed :
    let held := ready.withHsu { ready.hsu with holdEffective := true }
    let stopped := ready.withHsu { ready.hsu with holdEffective := true, stopActive := true }
    let locked := ready.withSeq { ready.seq with lockout := 250 }
    let cut := (ready.withCst { ready.cst with cues := [{ waitCue 1 with cut := true }] }).withSeq
      { ready.seq with standby := some 1 }
    LinkOpen held ∧ held.hsu.holdEffective = true ∧ held.hsu.stopActive = false ∧ LinkOpen stopped
      ∧ stopped.hsu.stopActive = true ∧ LinkOpen locked ∧ 0 < locked.seq.lockout ∧ ready.seq.standby = none
      ∧ LinkOpen cut ∧ cut.seq.standby = some 1 ∧ cueAt cut 1 = some { waitCue 1 with cut := true } := by
  unfold LinkOpen LinkReady
  decide +kernel

theorem witness_accepted_go : TableLaw twoCues ∧ (decideGo .line twoCues).outcome = .accepted ⟨1, 0⟩
    ∧ (decideFire ⟨2, 0⟩ twoCues).outcome = .accepted ⟨2, 0⟩ ∧ (decideGo .line ready).outcome = .endOfList
    ∧ TableLaw ready := by unfold TableLaw; decide +kernel

theorem witness_fire : LinkOpen twoCues ∧ cueNumberInRange ⟨2, 0⟩ = true ∧ cueNumberInRange ⟨0, 0⟩ = false
    ∧ cueNumberInRange ⟨9999, 9⟩ = true ∧ cueNamed twoCues ⟨2, 0⟩ = some (waitCue 2) ∧ cueNamed twoCues ⟨3, 0⟩ = none
    ∧ (waitCue 2).cut = false ∧ entryRunning (crowd 16) ⟨2, 0⟩ = none ∧ cueNamed (crowd 16) ⟨2, 0⟩ = some (waitCue 2)
    ∧ LowestFree (tableWithout twoCues ⟨2, 0⟩) 1 ∧ (waitCue 2).Waits :=
  ⟨⟨⟨rfl, rfl⟩, rfl⟩, rfl, rfl, rfl, rfl, rfl, rfl, by decide +kernel, rfl, lowest_one rfl, Or.inl (by decide)⟩

theorem witness_locate : LinkOpen twoCues ∧ cuesRising twoCues.cst.cues = true ∧ cueNumberInRange ⟨1, 5⟩ = true
    ∧ (waitCue 2 ∈ twoCues.cst.cues ∧ (CueNumber.le ⟨1, 5⟩ (waitCue 2).number) = true)
    ∧ (∀ c ∈ twoCues.cst.cues, c.number ≠ ⟨1, 5⟩) :=
  ⟨⟨⟨rfl, rfl⟩, rfl⟩, by decide +kernel⟩

theorem witness_set_sequencer : LinkOpen twoCues ∧ twoCues.seq.showState = .setup ∧ saving twoCues = false
    ∧ twoCues.seq.standby = some 1 ∧ cueAt twoCues 1 = some (waitCue 1) ∧ ready.seq.standby = none :=
  ⟨⟨⟨rfl, rfl⟩, rfl⟩, by decide +kernel⟩

theorem witness_reset_show : LinkOpen twoCues ∧ twoCues.hsu.stopActive = false
    ∧ LinkOpen (ready.withHsu { ready.hsu with stopActive := true })
    ∧ sparseRising none twoCues.fbg.governors = true ∧ sparseRising none twoCues.tmu.timers = true
    ∧ sparseRising none twoCues.ply.players = true ∧ twoCues.rpu.active = none
    ∧ LinkOpen (talking .call) ∧ (∃ a, (talking .call).rpu.active = some a ∧ a.zoneSet.Nodup)
    ∧ sparseRising none (talking .call).rpu.zones = true :=
  ⟨⟨⟨rfl, rfl⟩, rfl⟩, rfl, ⟨⟨rfl, rfl⟩, rfl⟩, rfl, rfl, rfl, rfl, ⟨⟨rfl, rfl⟩, rfl⟩, ⟨_, rfl, by decide⟩, rfl⟩

/-- RESET SHOW sets the crosspoints of snapshot 0 and leaves the others (R25, R69). -/
theorem test_reset_applies_snapshot_0 :
    let s := (ready.withCst { ready.cst with snapshots := [(0, [⟨1, 1, -96⟩])] }).withMix
      { ready.mix with levels := [(0, 5), (1, 7)] }
    levelOf (after (.resetShow 1) s) 1 1 = -96 ∧ levelOf (after (.resetShow 1) s) 1 2 = 7 := by decide +kernel

/-- A cue with one MARK at 50 ms. -/
def markCue : Cue := { waitCue 1 with actions := [⟨50, .mark 0⟩] }

/-- An entry of a cue, its prewait run out. -/
def prewaitOut (c : Cue) : Entry := { Entry.initial c .link none with prewait := 0 }

theorem witness_prewait_end :
    (running (prewaitOut markCue)).seq.entries = [(16, prewaitOut markCue)] ∧ (prewaitOut markCue).phase = .prewait
      ∧ (prewaitOut markCue).prewait = 0 ∧ markCue.follow = .none ∧ (prewaitOut markCue).postwait = .absent
      ∧ .unfired ∈ (prewaitOut markCue).states ∧ (∀ a ∈ markCue.actions, 0 < a.offset)
      ∧ (running (prewaitOut markCue)).hsu.holdEffective = false
      ∧ (waitCue 1).actions = [] ∧ (prewaitOut (waitCue 1)).states = [] ∧ (prewaitOut (waitCue 1)).outcome = .none
      ∧ (prewaitOut (waitCue 1)).postwait = .absent := by decide +kernel

/-- An ACTIVE entry of the MARK cue, 50 ms in. -/
def markDue : Entry := { prewaitOut markCue with phase := .active, elapsed := 50 }

theorem witness_action_fire :
    sparseFind (running markDue).seq.entries 16 = some markDue ∧ markDue.phase = .active
      ∧ markDue.cue.actions[0]? = some ⟨50, .mark 0⟩ ∧ markDue.states.length = markDue.cue.actions.length
      ∧ markDue.states[0]? = some .unfired ∧ 50 ≤ markDue.elapsed ∧ (running markDue).hsu.holdEffective = false := by
  decide +kernel

/-- An entry whose one action is due, on a state with clip 7, snapshot 127 and player 8 playing. -/
def acting (w : Work) : State :=
  let cue : Cue := { waitCue 1 with actions := [⟨50, w⟩] }
  let e : Entry := { Entry.initial cue .link none with phase := .active, elapsed := 50 }
  let clips : Cmc := { ready.cmc with directory := [(7, clipA)] }
  let tables : Cst := { ready.cst with snapshots := [(127, [⟨48, 25, 0⟩])] }
  setPlayerRecord 8 { ({} : Player) with state := .playing, clip := some 7, copy := some clipA, env := ⟨0, 0, 0, 0, 0⟩ }
    (((ready.withSeq { ready.seq with entries := [(16, e)] }).withCmc clips).withCst tables)

theorem witness_actions_by_kind : ∀ w, ∃ e, sparseFind (acting w).seq.entries 16 = some e ∧ e.nextDue = some (0 + 1)
    ∧ e.cue.actions[0]? = some ⟨50, w⟩ ∧ (acting w).hsu.holdEffective = false ∧ (acting w).mix.slots = []
    ∧ sparseRising none (acting w).ply.players = true ∧ sparseRising none (acting w).fbg.governors = true
    ∧ sparseRising none (acting w).tmu.timers = true ∧ sparseRising none (acting w).tmu.marks = true
    ∧ sparseFind (acting w).cst.snapshots 0 = none ∧ sparseFind (acting w).cst.snapshots 127 = some [⟨48, 25, 0⟩]
    ∧ clipEntry (acting w) 0 = none ∧ clipEntry (acting w) 7 = some clipA ∧ (playerOf (acting w) 1).state = .idle
    ∧ (playerOf (acting w) 8).state = .playing ∧ (playerOf (acting w) 8).env.level ≠ off := by
  intro w
  refine ⟨_, rfl, rfl, rfl, ?_⟩
  refine ⟨rfl, rfl, rfl, rfl, rfl, rfl, rfl, rfl, rfl, rfl, rfl, rfl, ?_⟩
  show (0 : Level) ≠ off
  decide

theorem fadeLaw_acting (w : Work) : FadeLaw (acting w) := by
  refine ⟨rfl, ?_, ?_⟩
  · intro f h
    cases h
  · show ([] : List (Nat × Nat)).Nodup
    decide

/-- A MARK writes the clock and the cue's number; a TIMER arms from now on (R61, R171). -/
theorem test_actions :
    sparseFind (after (.actionFire 16 1) (acting (.mark 31))).tmu.marks 31 = some ⟨0, ⟨1, 0⟩⟩
      ∧ (timerOf (after (.actionFire 16 1) (acting (.timer 8 2147483647 .eventOnly))) 8).target = 2147483647 := by
  decide +kernel

/-- A finished entry whose postwait has run out, its follow target a cue. -/
def expired (target : Option CueNumber) : Entry :=
  { prewaitOut (waitCue 3) with phase := .done, postwait := .running 0, followTarget := target }

theorem witness_postwait_expiry :
    (running (expired none)).seq.entries = [(16, expired none)] ∧ (expired none).phase = .done
      ∧ (expired none).outstanding = 0 ∧ (expired none).postwait = .running 0 ∧ (expired none).followTarget = none
      ∧ standbyNumber (running (expired (some ⟨2, 0⟩))) ≠ (expired (some ⟨2, 0⟩)).followTarget
      ∧ (running (expired (some ⟨1, 0⟩))).seq.standby = some 1
      ∧ cueAt (running (expired (some ⟨1, 0⟩))) 1 = some (waitCue 1)
      ∧ (expired (some ⟨1, 0⟩)).followTarget = some (waitCue 1).number ∧ (waitCue 1).cut = false
      ∧ 0 < (waitCue 1).prewait ∧ (running (expired none)).hsu.holdEffective = false := by decide +kernel

/-- An entry whose postwait has run out while its one action is due. -/
def expiredDue : Entry :=
  { prewaitOut { waitCue 3 with actions := [⟨50, .mark 31⟩] } with
    phase := .active, elapsed := 50, postwait := .running 0, followTarget := some ⟨1, 0⟩ }

/-- The action fires first, and the postwait expires then (R63). -/
theorem test_expiry_waits_for_actions :
    (after (.postwaitExpiry 16) (running expiredDue)).seq = (running expiredDue).seq
      ∧ (after (.postwaitExpiry 16) (after (.actionFire 16 1) (running expiredDue))).seq.entries.length = 1
      ∧ standbyNumber (after (.postwaitExpiry 16) (after (.actionFire 16 1) (running expiredDue))) ≠ some ⟨1, 0⟩ := by
  decide +kernel

theorem witness_expiry_waits : sparseFind (running expiredDue).seq.entries 16 = some expiredDue
    ∧ expiredDue.nextDue ≠ none := by decide +kernel

theorem witness_write_cue :
    LinkOpen twoCues ∧ twoCues.seq.showState = .setup ∧ saving twoCues = false ∧ cueInRange (waitCue 3).body = true
      ∧ entryRunning twoCues ⟨3, 0⟩ = none ∧ cuesRising twoCues.cst.cues = true ∧ twoCues.cst.cues.length < 512
      ∧ (waitCue 3).body.actions.length ≤ actionPoolFree twoCues + actionsOf twoCues ⟨3, 0⟩
      ∧ standbyNumber twoCues = some ⟨1, 0⟩ ∧ cueNamed twoCues ⟨2, 0⟩ ≠ none ∧ entryRunning twoCues ⟨2, 0⟩ = none := by
  unfold LinkOpen LinkReady
  decide +kernel

/-- The two cues with an operation in the slot. -/
def cuesUnder (o : Option Operation) : State := twoCues.withCmc { twoCues.cmc with slot := o }

theorem witness_delete_cue :
    LinkReady (cuesUnder (some (.load false .header))) ∧ loading (cuesUnder (some (.load false .header))) = true
      ∧ LinkReady inShowTwo ∧ loading inShowTwo = false ∧ inShowTwo.seq.showState = .inShow
      ∧ saving (cuesUnder (some (.saveShow [] (.erase 0)))) = true
      ∧ cueNumberInRange ⟨0, 9⟩ = false ∧ cueNumberInRange ⟨10000, 0⟩ = false
      ∧ cueNamed twoCues ⟨3, 0⟩ = none ∧ cueNamed twoCues ⟨1, 0⟩ = some (waitCue 1) ∧ entryRunning twoCues ⟨1, 0⟩ = none
      ∧ cuesRising twoCues.cst.cues = true ∧ standbyNumber twoCues = some ⟨1, 0⟩
      ∧ entryRunning (running (prewaitOut (waitCue 1))) ⟨1, 0⟩ ≠ none
      ∧ (cuesUnder (some (.preflight false ⟨1, 1, [], none⟩))).cmc.slot = some (.preflight false ⟨1, 1, [], none⟩)
      ∧ ((cuesUnder none).withSeq { twoCues.seq with standby := none }).seq.standby = none := by
  unfold LinkReady
  decide +kernel

theorem witness_write_cue_aborts : LinkOpen (after (.preflight 1 0) ready)
    ∧ (after (.preflight 1 0) ready).cmc.slot = some (.preflight false ⟨1, 1, [], none⟩) :=
  ⟨⟨⟨rfl, rfl⟩, rfl⟩, by decide +kernel⟩

/-- Snapshot 127 with one entry. -/
def oneSnapshot : State := ready.withCst { ready.cst with snapshots := [(127, [⟨48, 25, 0⟩])] }

theorem witness_snapshots : LinkOpen oneSnapshot ∧ oneSnapshot.seq.showState = .setup ∧ saving oneSnapshot = false
    ∧ sparseRising none oneSnapshot.cst.snapshots = true ∧ snapshotInRange 127 [⟨1, 1, 0⟩] = true
    ∧ 1 ≤ entryPoolFree oneSnapshot + entriesOf oneSnapshot 127 ∧ sparseFind oneSnapshot.cst.snapshots 127 ≠ none
    ∧ sparseFind oneSnapshot.cst.snapshots 0 = none :=
  ⟨⟨⟨rfl, rfl⟩, rfl⟩, by decide +kernel⟩

/-- A preflight of an empty list at its end. -/
def preflightEnding : State := ready.withCmc { ready.cmc with slot := some (.preflight false ⟨1, 1, [], none⟩) }

theorem witness_clean_is_set :
    let i : Instr := .millisecondBoundary ⟨true, true, true, true⟩ {} .whole
    exec i preflightEnding = .next (after i preflightEnding) ∧ preflightEnding.cst.clean = false
      ∧ (after i preflightEnding).cst.clean = true ∧ preflightEnding.clink.queue = [] := by
  refine ⟨rfl, ?_⟩
  decide +kernel

/-- A preflight's walk over a cue that plays clip 7 and a marker. -/
def walking (verify : Bool) (w : Walk) : State :=
  (withClip ready).withCst { ready.cst with cues := [{ waitCue 1 with actions := [⟨0, .play 1 7 1 0 0⟩] }, waitCue 2] }
    |>.withCmc { (withClip ready).cmc with
      slot := some (.preflight verify w), transfer := some ⟨.verify, .blockRead 1024, 0, 2, true⟩ }

theorem witness_preflight : ∀ verify w, (walking verify w).cmc.slot = some (.preflight verify w)
    ∧ QuietSeq (walking verify w) ∧ sparseRising none (walking verify w).rpu.zones = true
    ∧ (walking verify w).cst.report.total ≤ 65535 ∧ (walking verify w).cst.report.records.length ≤ 8
    ∧ (∃ c, cueAt (walking verify w) 1 = some c ∧ c.actions[1 - 1]? = some ⟨0, .play 1 7 1 0 0⟩)
    ∧ (∃ c, cueAt (walking verify w) 2 = some c ∧ c.actions[1 - 1]? = none) ∧ cueAt (walking verify w) 3 = none
    ∧ clipNamed (.play 1 7 1 0 0) = some (7, none) ∧ clipEntry (walking verify w) 7 = some clipA
    ∧ sparseFind ([] : Sparse Bool) 7 = none ∧ sparseFind [(7, true)] 7 ≠ none
    ∧ 0 < (walking verify w).cmc.capacity
    ∧ (∃ x, (walking verify w).cmc.transfer = some x ∧ x.client = .verify ∧ x.wanted = true ∧ x.extent = .blockRead 1024
      ∧ 2 ≤ x.elapsed) :=
  fun _ _ => ⟨rfl, quiet_none rfl, rfl, Nat.zero_le _, Nat.zero_le _, ⟨_, rfl, rfl⟩, ⟨_, rfl, rfl⟩, rfl, rfl, rfl, rfl, by decide,
    Nat.succ_pos _, _, rfl, rfl, rfl, rfl, Nat.le_refl 2⟩

/-- A walk that verifies reads clip 7 before the action's check (R41); without verify the cue is passed at once (R40). -/
theorem test_preflight_walks :
    let i : Instr := .millisecondBoundary ⟨true, true, true, true⟩ {} .split
    (after i (walking true ⟨1, 1, [], none⟩)).cmc.slot = some (.preflight true ⟨1, 1, [], some (7, clipA, 0, 0xFFFF#16)⟩)
      ∧ (after i (walking false ⟨1, 1, [], none⟩)).cmc.slot = some (.preflight false ⟨2, 1, [], none⟩)
      ∧ (after i (walking false ⟨1, 1, [], none⟩)).cst.report.walked = 1 := by decide +kernel

theorem witness_untimed_sets : LinkOpen fading ∧ sparseRising none fading.mix.levels = true
    ∧ sparseRising none fading.mix.masters = true ∧ FadeLaw fading ∧ slotOn fading 2 3 ≠ none :=
  ⟨⟨⟨rfl, rfl⟩, rfl⟩, rfl, rfl, fadeLaw_fading, by decide +kernel⟩

theorem witness_fade_takes_a_slot : FadeLaw fading ∧ LinkOpen fading ∧ slotOn fading 48 25 = none
    ∧ levelOf fading 48 25 ≠ max (-1536) (min 192 0) ∧ sparseFind fading.mix.slots 2 = none
    ∧ sparseFind fading.mix.slots 1 ≠ none :=
  ⟨fadeLaw_fading, ⟨⟨rfl, rfl⟩, rfl⟩, by decide +kernel⟩

/-- The same fade at its end, owned by an outstanding action of an entry. -/
def fadeOut : State :=
  (running { markDue with states := [.outstanding] }).withMix
    { ready.mix with slots := [(128, ⟨2, 3, -1536, 0, 1000, 1000, .cue ⟨16, 1⟩⟩)], levels := [(27, 0)] }

theorem witness_fade_end : FadeLaw fadeOut ∧ sparseRising none fadeOut.mix.levels = true
    ∧ (∃ f, sparseFind fadeOut.mix.slots 128 = some f ∧ f.elapsed = f.duration ∧ f.owner = .cue ⟨16, 1⟩)
    ∧ (∃ e, sparseFind fadeOut.seq.entries 16 = some e ∧ e.states[1 - 1]? = some .outstanding)
    ∧ (∃ f, sparseFind fading.mix.slots 1 = some f ∧ f.elapsed < f.duration ∧ f.owner = .none) := by
  refine ⟨by unfold FadeLaw; decide +kernel, rfl, ⟨_, rfl, rfl, rfl⟩, ⟨_, rfl, rfl⟩, ⟨_, rfl, by decide, rfl⟩⟩

/-- All 128 slots occupied, one a crosspoint, each with its number of milliseconds to go. -/
def allFading : State := ready.withMix { ready.mix with
  slots := (List.range' 1 128).map fun k => (k, ⟨1 + k / 25, 1 + k % 25, 0, -100, 1000, 1000 - k, .none⟩) }

theorem witness_fade_takeover_and_steal : FadeLaw allFading ∧ sparseRising none allFading.mix.levels = true
    ∧ (∀ f ∈ allFading.mix.slots, 1 ≤ f.2.source ∧ 1 ≤ f.2.bus ∧ f.2.bus ≤ 25)
    ∧ slotOn allFading 48 25 = none ∧ levelOf allFading 48 25 ≠ 0
    ∧ (∀ j ∈ List.range' 1 128, sparseFind allFading.mix.slots j ≠ none)
    ∧ (∃ v, sparseFind allFading.mix.slots 1 = some v ∧ v.duration - v.elapsed = 1)
    ∧ (∀ e ∈ allFading.mix.slots, e.2.duration - e.2.elapsed = e.1)
    ∧ (slotOn fading 2 3).isSome = true ∧ levelOf fading 2 3 ≠ max (-1536) (min 192 100) := by
  unfold FadeLaw
  refine ⟨by decide +kernel, rfl, by decide +kernel, rfl, by decide +kernel, by decide +kernel, ⟨_, rfl, rfl⟩, ?_⟩
  decide +kernel

/-- The slot with the least time to go is stolen, its crosspoint at its target (R8). -/
theorem test_steal : let t := after (.setCrosspoint 1 48 25 0 9) allFading
    (sparseFind t.mix.slots 1).map (fun f => (f.source, f.bus, f.duration)) = some (48, 25, 9) ∧ levelOf t 1 2 = -100 := by
  decide +kernel

/-- Governor 1 hunting at the end of a window. -/
def huntingOne : State := windowDue [(1, judge .hunting 0)]

theorem witness_governors : LinkOpen huntingOne ∧ huntingOne.seq.showState = .setup ∧ saving huntingOne = false
    ∧ sparseRising none huntingOne.fbg.governors = true ∧ LinkReady State.reset ∧ loading State.reset = true
    ∧ (⟨1, 0, 0, 0, -600, 300, 0⟩ : GovernorBody).enable ≤ 1 := by
  unfold LinkOpen LinkReady
  decide +kernel

theorem witness_laws : LinkLaw ready ∧ EventLaw ready ∧ FlashLaw ready ∧ DuckLaw ready ∧ ZoneDuckLaw ready ∧ TrimLaw ready
    ∧ FreezeLaw ready ∧ TableLaw ready ∧ ShowLaw ready ∧ FadeLaw ready ∧ step ready = .next ready := by
  refine ⟨by unfold LinkLaw; decide, by unfold EventLaw; decide, rfl, ⟨by decide, by decide, by decide, ?_⟩, ?_, ?_, ⟨rfl, ?_⟩,
    ⟨rfl, ?_, by decide⟩, ⟨?_, ?_⟩, ⟨rfl, ?_, by decide⟩, rfl⟩
  · intro r h; cases h
  · intro e h; cases h
  · intro e h; cases h
  · intro n _ _
    refine ⟨fun h => ?_, fun _ => rfl⟩
    cases h
  · intro e h; cases h
  · intro t h; cases h
  · intro h; cases h
  · intro f h; cases h

theorem levelLaw_fading : LevelLaw fading ∧ StoredLaw fading ∧ StoredLaw twoCues ∧ step fading = .next fading
    ∧ twoCues.pending = [] := by
  unfold LevelLaw LevelInRange StoredLaw CueSound
  refine ⟨?_, ?_, ?_, rfl, rfl⟩ <;> decide +kernel

theorem fadingLaw_fading : FadingLaw fading := by
  refine ⟨rfl, by decide +kernel, ?_⟩
  intro p h
  cases h

theorem witness_page_and_hold_laws : PageLaw ready ∧ BufferLaw ready ∧ HoldLaw ready := by
  refine ⟨⟨rfl, by decide, List.Pairwise.nil, fun _ => rfl, ?_, by decide⟩, ⟨rfl, fun _ => Nat.zero_le _, Nat.zero_le _, ?_⟩, ?_⟩
  · intro a h; cases h
  · intro x h; cases h
  · intro h; cases h

theorem standbyLaw_two : StandbyLaw twoCues := by
  refine ⟨by decide +kernel, ?_, ?_⟩
  · intro i h
    cases h
    exact ⟨waitCue 1, rfl, fun _ => rfl⟩
  · intro h
    cases h

/-- A state with one player's record. -/
def player (n : Nat) (p : Player) : State := setPlayerRecord n p (withClip ready)

/-- A player that holds clip 7 with its one block. -/
def heldPlayer : Player := { ({} : Player) with clip := some 7, copy := some clipA, buffer := [⟨0, []⟩], fetchLoops := 1 }

/-- A play of clip 7. -/
def playA : Play := ⟨7, 1, 0, 0, none, 3⟩

/-- A gated from is numbered in the order of its rule: CONVERGED is 1 (R113, R187). -/
theorem test_gated_from_number : (governorReport 1 (setGovernorRecord 1 { governorOf ready 1 with
    state := .gated, gatedFrom := some .converged } ready)).contains (.u8 3) = false := by decide +kernel

/-- A play of two passes keeps the blocks buffered and its fetch loops at its start, and owes the turn (R74, R79). -/
theorem test_start_keeps_blocks :
    let p := playerOf (after (.playStart 8) (player 8 { heldPlayer with
      state := .loading, pending := some { playA with loops := 2 } })) 8
    p.buffer = heldPlayer.buffer ∧ p.fetchLoops = 2 ∧ p.fetchNext = some 0 ∧ (p.takeTurn clipA).fetchLoops = 1 := by
  decide +kernel

theorem witness_player_events :
    let start := player 8 { heldPlayer with state := .loading, pending := some playA }
    let ended := player 8 { heldPlayer with state := .playing, position := 1000 }
    let tail := player 8 { heldPlayer with state := .releasingRetrigger, pending := some playA }
    let held := player 8 { heldPlayer with state := .readyHold, holdTimer := some 0 }
    let released := player 8 { heldPlayer with state := .releasingStop, env := ⟨-1536, 0, -1536, 9, 9⟩ }
    let stopped := player 8 { heldPlayer with state := .releasingRetrigger }
    (playerOf released 8).state = .releasingStop ∧ (playerOf released 8).env.level = -1536
      ∧ (playerOf released 8).position < clipA.length ∧ sparseRising none released.ply.players = true
      ∧ (playerOf stopped 8).state = .releasingRetrigger ∧ (playerOf stopped 8).tail = []
      ∧ (playerOf stopped 8).pending = none ∧ (playerOf stopped 8).clip = some 7 ∧ clipEntry stopped 7 = some clipA
      ∧ sparseRising none start.ply.players = true ∧ (playerOf start 8).state = .loading
      ∧ (playerOf start 8).pending = some playA ∧ (playerOf start 8).copy = some clipA
      ∧ clipA.threshold ≤ (playerOf start 8).buffer.length
      ∧ sparseRising none ended.ply.players = true ∧ (playerOf ended 8).state = .playing ∧ (playerOf ended 8).clip = some 7
      ∧ (playerOf ended 8).copy = some clipA ∧ clipA.length ≤ (playerOf ended 8).position
      ∧ (playerOf ended 8).owner = none ∧ ended.ply.holdTime ≠ 0
      ∧ sparseRising none tail.ply.players = true ∧ (playerOf tail 8).state = .releasingRetrigger
      ∧ (playerOf tail 8).tail = [] ∧ (playerOf tail 8).pending = some playA ∧ clipEntry tail 7 = some clipA
      ∧ sparseRising none held.ply.players = true ∧ (playerOf held 8).holdTimer = some 0
      ∧ held.hsu.holdEffective = false := by decide +kernel

/-- The end of an owned play completes its action (R83); a tail stopped leaves the clip held (R84). -/
theorem test_ends_tell_and_hold :
    let e : Entry := { Entry.initial { waitCue 1 with actions := [⟨0, .play 8 7 1 0 0⟩, ⟨9, .mark 0⟩] } .link none with
      phase := .active, states := [.outstanding, .unfired] }
    let owned := setPlayerRecord 8 { heldPlayer with state := .playing, position := 1000, owner := some ⟨16, 1⟩ } (running e)
    (after (.playEnd 8) owned).seq.entries.map (fun x => x.2.states) = [[.complete, .unfired]]
      ∧ (playerOf (after (.retriggerTailEnd 8) (player 8 { heldPlayer with state := .releasingRetrigger })) 8).state
          = .readyHold := by decide +kernel

/-- A clip of three mono blocks, so that one block is not enough to start. -/
def clipLong : DirEntry := ⟨2048, 3000, 1, none, 0⟩

/-- Player 8 with clip 7 in a state, with a buffer and the play that waits. -/
def playerIn (st : PlayerState) (clip : Nat) (e : DirEntry) (p : Option Play) : State :=
  player 8 { heldPlayer with
    state := st, clip := some clip, copy := some e, env := ⟨0, 0, 0, 0, 0⟩, pending := p, owner := some ⟨16, 1⟩ }

theorem witness_player_requests : ∀ st,
    LinkOpen (playerIn st 7 clipA (some playA)) ∧ sparseRising none (playerIn st 7 clipA (some playA)).ply.players = true
      ∧ clipEntry (playerIn st 7 clipA (some playA)) 7 = some clipA ∧ clipEntry (playerIn st 7 clipA (some playA)) 255 = none
      ∧ (playerOf (playerIn st 7 clipA (some playA)) 8).state = st ∧ (playerOf (playerIn st 6 clipA none) 8).clip = some 6
      ∧ (playerOf (playerIn st 7 clipA none) 8).copy = some clipA ∧ clipA.threshold ≤ heldPlayer.buffer.length
      ∧ (playerOf (playerIn st 7 clipLong none) 8).copy = some clipLong ∧ heldPlayer.buffer.length < clipLong.threshold
      ∧ (playerOf (playerIn st 7 clipA none) 8).env.level ≠ -1536 ∧ (playerOf (playerIn st 7 clipA none) 1).state = .idle
      ∧ ((playerOf (playerIn st 7 clipA (some playA)) 8).pending.bind fun q => q.owner) = none := by
  unfold LinkOpen LinkReady
  intro st
  cases st <;> decide +kernel

theorem witness_player_owner : (playerOf (playerIn .playing 7 clipA none) 8).owner = some ⟨16, 1⟩
    ∧ (∃ e, sparseFind fadeOut.seq.entries 16 = some e ∧ e.states[1 - 1]? = some .outstanding)
    ∧ inShowTwo.seq.showState = .inShow ∧ saving (cuesUnder (some (.saveShow [] (.erase 0)))) = true :=
  ⟨by decide +kernel, ⟨_, rfl, rfl⟩, rfl, rfl⟩

/-- Player 8 sounds clip 7 at a frame, its block read in flight. -/
def soundingAt (st : PlayerState) (frame : Nat) (episode wanted : Bool) (buffer : List Block) : State :=
  (player 8 { heldPlayer with state := st, position := frame, episode := episode, buffer := buffer }).withCmc
    { (withClip ready).cmc with transfer := some ⟨.player 8, .blockRead 1024, 0, 2, wanted⟩ }

theorem witness_players_pause : ∀ st wanted,
    QuietSeq (soundingAt st 0 false wanted []) ∧ sparseRising none (soundingAt st 0 false wanted []).ply.players = true
      ∧ (playerOf (soundingAt st 0 false wanted []) 8).state = st
      ∧ (playerOf (soundingAt st 0 false wanted []) 8).copy = some clipA
      ∧ (playerOf (soundingAt st 999 true wanted [⟨0, []⟩]) 8).position < clipA.length
      ∧ 999 + 1 = clipA.loopEnd ∧ (playerOf (soundingAt st 0 false wanted []) 8).buffer.head? = none
      ∧ (playerOf (soundingAt st 0 false wanted []) 8).episode = false
      ∧ ((playerOf (soundingAt st 999 true wanted [⟨0, []⟩]) 8).buffer.head?.map fun b => b.number) = some (999 / clipA.perBlock)
      ∧ 0 < (soundingAt st 0 false wanted []).cmc.capacity
      ∧ (playerOf (soundingAt st 999 true wanted []) 8).episode = true := by
  unfold QuietSeq
  intro st wanted
  cases st <;> cases wanted <;> decide +kernel

theorem witness_block_arrives : ∀ st wanted, ∃ x, (soundingAt st 0 false wanted []).cmc.transfer = some x
    ∧ x.client = .player 8 ∧ x.extent = .blockRead 1024 ∧ x.wanted = wanted ∧ x.block = 0 ∧ 2 ≤ x.elapsed :=
  fun _ _ => ⟨_, rfl, rfl, rfl, rfl, rfl, Nat.le_refl 2⟩

/-- An envelope toward OFF, or with attack 0, stands at its target at once and keeps the time (R79; log entry 39). -/
theorem test_envelopes : startEnvelope 0 1000 = ⟨-960, -1536, 0, 0, 1000⟩ ∧ startEnvelope 0 0 = ⟨0, -1536, 0, 0, 0⟩
    ∧ startEnvelope (-1536) 9 = ⟨-1536, -1536, -1536, 0, 9⟩ := by decide +kernel

/-- A page that waits. -/
def waitingPage (n : Nat) (cls : PageClass) (source : PageSource) (zone : Nat) : Page :=
  ⟨n, cls, source, 0, [zone], .timer, false, false, false⟩

/-- The page of a class active with these pages waiting. -/
def queued (cls : PageClass) (queue : List Page) : State :=
  (talking cls).withRpu { (talking cls).rpu with queue := queue }

theorem witness_pages :
    let waiting := queued .talk [waitingPage 65534 .call (.clip 8) 1, waitingPage 65535 .timed (.clip 7) 1]
    LinkOpen (withClip ready) ∧ sparseRising none (withClip ready).rpu.zones = true
      ∧ targetInRange (.groups 255) = true ∧ clipEntry (withClip ready) 7 = some clipA
      ∧ pageHeld (withClip ready) 1 = false ∧ zonesSelected (withClip ready) 255 [] ≠ []
      ∧ (withClip ready).rpu.active = none ∧ (withClip ready).rpu.queue = [] ∧ zonesSelected noZones 0 [24] = []
      ∧ LinkOpen (talking .talk) ∧ LinkOpen (talking .stop) ∧ LinkOpen waiting ∧ pageHeld waiting 1 = false
      ∧ zonesSelected waiting 255 [] ≠ [] ∧ waiting.rpu.queue.length < 8
      ∧ (∀ q ∈ waiting.rpu.queue, q.source ≠ .clip 7 ∨ q.cls ≠ .call)
      ∧ (∀ q ∈ waiting.rpu.queue, q.cls ≠ .stop ∧ q.number ≠ 9) ∧ pageHeld waiting 2 = false
      ∧ (talking .talk).rpu.queue = [] ∧ ([1, 2] : List Nat).Nodup := by
  unfold LinkOpen LinkReady
  decide +kernel

theorem witness_pages_merge_and_fill :
    let seven := List.replicate 7 (waitingPage 1 .call (.clip 8) 1)
    let equal := queued .call [waitingPage 4 .call (.clip 8) 1, waitingPage 5 .call (.clip 7) 1]
    let full := queued .call (seven ++ [waitingPage 6 .call (.clip 9) 1])
    let fullTimed := queued .call (seven ++ [waitingPage 6 .timed (.clip 9) 1])
    LinkOpen equal ∧ clipEntry equal 7 = some clipA ∧ zonesSelected equal 0 [1] ≠ []
      ∧ pageHeld equal equal.rpu.nextNumber = false ∧ LinkOpen full ∧ full.rpu.queue.length = 8
      ∧ (∀ q ∈ full.rpu.queue, q.source ≠ .clip 7) ∧ LinkOpen fullTimed ∧ fullTimed.rpu.queue.length = 8
      ∧ (∀ q ∈ fullTimed.rpu.queue, q.source ≠ .clip 7) := by
  unfold LinkOpen LinkReady
  decide +kernel

theorem witness_pages_unite_and_preempt :
    let talkWaits := queued .stop [waitingPage 4 .talk .live 1]
    let clip := (queued .timed []).withRpu { (queued .timed []).rpu with
      active := some ⟨waitingPage 9 .timed (.clip 7) 1, [1, 2], none⟩ }
    let next := queued .call [waitingPage 4 .timed .live 1]
    LinkOpen (talking .talk) ∧ zonesSelected (talking .talk) 0 [3] ≠ [] ∧ LinkOpen talkWaits
      ∧ pageHeld talkWaits talkWaits.rpu.nextNumber = false ∧ LinkOpen clip ∧ clip.rpu.queue.length < 8
      ∧ pageHeld clip clip.rpu.nextNumber = false ∧ (∀ q ∈ clip.rpu.queue, q.cls ≠ .talk) ∧ LinkOpen (talking .call)
      ∧ LinkOpen next ∧ (∀ x ∈ next.rpu.queue, x.number ≠ 9) ∧ zonesSelected next 0 [1] ≠ [] := by
  unfold LinkOpen LinkReady
  decide +kernel

/-- A TALK request preempts a CLIP page, which goes back to wait, marked (R141). -/
theorem test_preemption :
    let clip := (queued .timed []).withRpu { (queued .timed []).rpu with
      active := some ⟨waitingPage 9 .timed (.clip 7) 1, [1, 2], none⟩ }
    let t := after (.page 1 ⟨1, 0, 0, .zone 2⟩) clip
    (t.rpu.active.map fun a => (a.page.cls, a.zoneSet)) = some (.talk, [2])
      ∧ t.rpu.queue.map (fun q => (q.number, q.replayed)) = [(9, true)] := by decide +kernel

/-- A CLIP page active with some attack time left, the call voice holding its clip. -/
def calling (attack : Option Nat) (state : VoiceState) (position : Nat) : State :=
  (withClip ready).withRpu { ready.rpu with
    active := some ⟨⟨9, .call, .clip 7, 1, [], .link, false, false, false⟩, [1, 2, 3], attack⟩
    voice := { ready.rpu.voice with state := state, page := 9, clip := 7, copy := some clipA, position := position
                                    buffer := [⟨0, []⟩] } }

theorem witness_page_events :
    (∃ a, (calling (some 0) .loading 0).rpu.active = some a ∧ a.attack = some 0 ∧ a.zoneSet.Nodup)
      ∧ sparseRising none (calling (some 0) .loading 0).rpu.zones = true
      ∧ (∃ a, (calling none .loading 0).rpu.active = some a ∧ a.attack = none)
      ∧ clipA.threshold ≤ (calling none .loading 0).rpu.voice.buffer.length
      ∧ (calling none .playing 1000).rpu.voice.state = .playing
      ∧ (calling none .playing 1000).rpu.voice.copy = some clipA ∧ (calling none .playing 1000).rpu.queue = []
      ∧ clipA.length ≤ (calling none .playing 1000).rpu.voice.position :=
  ⟨⟨_, rfl, rfl, by decide⟩, rfl, ⟨_, rfl, rfl⟩, by decide +kernel⟩

/-- A CALL page for group 1 active on its zones, its attack still running; zone 24, disabled, has a duck that releases. -/
def groupPaged : State := ready.withRpu { ready.rpu with
  active := some ⟨⟨9, .call, .clip 7, 1, [], .link, false, false, false⟩, [1, 2, 3], some 5⟩
  zones := [(24, { Zone.initial 24 with duck := ⟨-300, some ⟨-320, 0, 100, 5⟩⟩ })] }

theorem witness_settings :
    let saving_ := ready.withCmc { ready.cmc with slot := some (.saveShow [] (.erase 0)) }
    let toggled := setLineRecord 2 { ({} : Line) with toggle := true, state := .asserted } ready
    LinkOpen saving_ ∧ saving saving_ = true ∧ LinkOpen ready ∧ saving ready = false ∧ ready.rpu.active = none
      ∧ sparseRising none ready.rpu.zones = true ∧ LinkOpen groupPaged ∧ sparseRising none groupPaged.rpu.zones = true
      ∧ (∃ a, groupPaged.rpu.active = some a ∧ a.zoneSet = zonesSelected groupPaged a.page.mask a.page.zones)
      ∧ (zoneOf groupPaged 24).duck.run ≠ none ∧ sparseRising none ready.hsu.injections = true
      ∧ ready.hsu.stopActive = false ∧ LinkOpen (ready.withHsu { ready.hsu with stopActive := true })
      ∧ LinkOpen toggled ∧ sparseRising none toggled.tmu.lines = true ∧ (lineOf toggled 2).toggle = true
      ∧ (lineOf toggled 2).state = .asserted ∧ (lineOf toggled 2).activeHigh ≠ decide (0 = 0)
      ∧ LinkOpen (talkReleasing .talk true false) ∧ (lineOf (talkReleasing .talk true false) 4).state = .asserted
      ∧ (lineOf (talkReleasing .talk true false) 4).activeHigh ≠ decide (0 = 0) := by
  refine ⟨⟨⟨rfl, rfl⟩, rfl⟩, rfl, open_ready, rfl, rfl, rfl, ⟨⟨rfl, rfl⟩, rfl⟩, rfl, ⟨_, rfl, by decide +kernel⟩,
    by decide +kernel, rfl, rfl, ⟨⟨rfl, rfl⟩, rfl⟩, ⟨⟨rfl, rfl⟩, rfl⟩, rfl, rfl, rfl, by decide +kernel,
    ⟨⟨rfl, rfl⟩, rfl⟩, rfl, by decide +kernel⟩

/-- Zone 24 joins the page of group 1 and is not paged before the attack's end; zone 2 leaves it (R138, R146). -/
theorem test_zones_join_and_leave :
    let joined := after (.setZone 1 24 ⟨1, 1, 0, 0, -320⟩) groupPaged
    let left := after (.setZone 1 2 ⟨1, 2, 0, 0, -320⟩) groupPaged
    (joined.rpu.active.map fun a => a.zoneSet) = some [1, 2, 3, 24] ∧ (zoneOf joined 24).inPage = true
      ∧ (zoneOf joined 24).paged = false ∧ (left.rpu.active.map fun a => a.zoneSet) = some [1, 3] := by decide +kernel

/-- A new active level releases an asserted TALK line first, and its page ends (R142, R165). -/
theorem test_set_line_releases :
    ((after (.setLine 1 4 ⟨0, 10, 0⟩) (talkReleasing .talk true false)).rpu.active.isNone) = true
      ∧ (after (.setLine 1 4 ⟨1, 10, 0⟩) (talkReleasing .talk true false)).rpu.active.isSome = true := by decide +kernel

theorem witness_hold_requests : LinkReady ready ∧ loading ready = false ∧ LinkReady State.reset
    ∧ loading State.reset = true := ⟨⟨rfl, rfl⟩, rfl, ⟨rfl, rfl⟩, rfl⟩

/-- REPORT leaves the flag, and action 3 is refused (R152). -/
theorem test_hold_actions :
    let held := after (.holdOn 1) ready
    (after (.holdReport 1) held).hsu.holdRequest = true ∧ statusOf (arrive 1 (.hold 2) held) = some .ok
      ∧ statusOf (arrive 1 (.hold 3) held) = some .outOfRange ∧ statusOf (arrive 1 (.showStop 3) held) = some .outOfRange := by
  decide +kernel

theorem witness_event_mask : LinkOpen ready ∧ sparseRising none ready.evr.slots = true
    ∧ (262143 : Nat).testBit (EventKind.link.number - 1) = true ∧ (131071 : Nat).testBit (EventKind.link.number - 1) = false :=
  ⟨open_ready, by decide +kernel⟩

theorem witness_timers :
    let armed (p : Payload) := setTimerRecord 8 ⟨.armed, 0, p, false⟩ ready
    LinkOpen ready ∧ sparseRising none ready.tmu.timers = true ∧ payloadInRange (.call 255 (.groups 255)) = true
      ∧ (BitVec.ofNat 32 2147483647 - ready.tmu.clock).toNat = 2147483647
      ∧ 2147483647 < (BitVec.ofNat 32 2147483648 - ready.tmu.clock).toNat
      ∧ (timerOf (armed .eventOnly) 8).state = .armed ∧ (timerOf (armed .eventOnly) 8).target = (armed .eventOnly).tmu.clock
      ∧ (timerOf (armed .eventOnly) 8).payload = .eventOnly
      ∧ (timerOf (armed (.call 7 (.zone 1))) 8).payload = .call 7 (.zone 1)
      ∧ LinkOpen (armed .eventOnly) ∧ sparseRising none (armed .eventOnly).tmu.timers = true
      ∧ (timerOf ready 8).state ≠ .armed := by
  unfold LinkOpen LinkReady
  decide +kernel

theorem witness_reports : LinkOpen twoCues ∧ cueNumberInRange ⟨2, 0⟩ = true ∧ cuesRising twoCues.cst.cues = true
    ∧ cueAt twoCues 2 = some (waitCue 2) ∧ (waitCue 2).number = ⟨2, 0⟩ ∧ cueNamed twoCues ⟨3, 0⟩ = none :=
  ⟨⟨⟨rfl, rfl⟩, rfl⟩, by decide +kernel⟩

theorem witness_clearing_reads : LinkOpen ready ∧ ready.evr.slots = []
    ∧ (raiseEvent .busClip 25 [1] ready).evr.slots = [(17 * 32 + 25, ⟨detailOf [1], 1, 0, 0⟩)]
    ∧ LinkOpen (raiseEvent .busClip 25 [1] ready) ∧ sparseRising none ready.fbg.governors = true
    ∧ sparseRising none ready.rpu.zones = true ∧ sparseFind ready.cst.snapshots 0 = none
    ∧ sparseFind oneSnapshot.cst.snapshots 127 = some [⟨48, 25, 0⟩] ∧ LinkOpen oneSnapshot := by
  unfold LinkOpen LinkReady
  decide +kernel

theorem witness_operations : LinkOpen ready ∧ ready.cmc.slot = none ∧ ready.seq.showState = .setup
    ∧ LinkOpen inShowTwo ∧ inShowTwo.seq.showState = .inShow ∧ inShowTwo.cmc.slot = none
    ∧ LinkOpen preflightEnding ∧ preflightEnding.cmc.slot ≠ none ∧ preflightEnding.seq.showState = .setup
    ∧ 1048575 < ready.cmc.capacity ∧ 64 * 16383 < ready.cmc.capacity ∧ ready.cmc.capacity ≤ 64 * 16384
    ∧ LinkOpen (withClip ready) ∧ clipEntry (withClip ready) 7 = some clipA ∧ clipEntry (withClip ready) 255 = none := by
  unfold LinkOpen LinkReady
  decide +kernel

/-- A link transfer in flight, 3 s old, for an operation or for a READ PAGE. -/
def inFlight (x : Extent) (o : Option Operation) : State :=
  (ready.withClink { ready.clink with inHand := if o.isNone then some ⟨5, 1024⟩ else none }).withCmc
    { ready.cmc with slot := o, transfer := some ⟨.link, x, 0, 3000, true⟩, flash := [(65536, 1), (1048576, 0x0F)] }

theorem witness_transfers :
    (∀ x o, ∃ t, (inFlight x o).cmc.transfer = some t ∧ t.extent = x ∧ t.client = .link ∧ t.wanted = true
        ∧ 3000 ≤ t.elapsed ∧ 0 < (inFlight x o).cmc.capacity ∧ FlashLaw (inFlight x o) ∧ (inFlight x o).cmc.slot = o
        ∧ (inFlight x o).clink.queue = [] ∧ (inFlight x o).rpu.voice.state ≠ .loading
        ∧ ∀ n, (playerOf (inFlight x o) n).pending = none)
      ∧ (inFlight (.pageRead 1024) none).clink.inHand = some ⟨5, 1024⟩
      ∧ loading (inFlight (.pageRead 1024) none) = false ∧ (List.replicate 1024 (0#8)).length = 1024 := by
  refine ⟨fun x o => ⟨_, rfl, rfl, rfl, rfl, Nat.le_refl _, Nat.succ_pos _, ?_, rfl, rfl, ?_, fun _ => rfl⟩, rfl, rfl, ?_⟩
  · show Memory.wf [(65536, 1), (1048576, 0x0F)] = true
    decide +kernel
  · show VoiceState.idle ≠ .loading
    decide
  · decide +kernel

/-- Some bytes with their CRC after them, as a file ends. -/
def sealed (bytes : List Byte) : List Byte := bytes ++ bytesOf 2 (crcOf bytes).toNat

/-- A file read back in one block, found good and found changed. -/
theorem witness_save_reads_back : (sealed [1, 2, 3]).length = 5 ∧ ¬(0 + 1 < ((5 + 1023) / 1024 + 3) / 4)
    ∧ fileCrcGood (sealed [1, 2, 3]) = true ∧ fileCrcGood ((sealed [1, 2, 3]).set 1 0) = false
    ∧ 0 + 1 < ((5000 + 1023) / 1024 + 3) / 4 := by decide +kernel

/-- A transfer just granted is not late. -/
theorem witness_transfer_in_time : (⟨.link, .pageRead 0, 0, 0, true⟩ : Transfer).elapsed < 1 := by decide

/-- An operation in the slot, the link having waited so often, player 8 with a block to read or without. -/
def arbitrated (o : Option Operation) (waited : Nat) (wants : Bool) : State :=
  (player 8 (if wants then { heldPlayer with state := .loading, buffer := [], fetchNext := some 0 } else {})).withCmc
    { (withClip ready).cmc with slot := o, linkWait := waited }

theorem witness_arbiter : ∀ waited wants, sparseFind (arbitrated (some (.eraseSector 16)) waited wants).mix.slots 1 = none
    ∧ QuietSeq (arbitrated (some (.eraseSector 16)) waited wants)
    ∧ (arbitrated (some (.eraseSector 16)) waited wants).cmc.transfer = none
    ∧ linkWants (arbitrated (some (.eraseSector 16)) waited wants) = some (.sectorErase 16)
    ∧ (Extent.sectorErase 16).writes = true ∧ linkWants (arbitrated none waited wants) = none
    ∧ linkWants (arbitrated (some (.verifyClip 7 clipA 0 0)) waited wants) = some (.blockRead (1024 + 4 * 0))
    ∧ (arbitrated none waited wants).rpu.voice.state = .idle
    ∧ (∀ n, (playerOf (arbitrated none waited false) n).state = .idle) := by
  intro waited wants
  cases wants <;> exact ⟨rfl, quiet_none rfl, rfl, rfl, rfl, rfl, rfl, rfl, fun _ => rfl⟩

theorem witness_arbiter_wants : ∀ o waited,
    PlayerWants (arbitrated o waited true) 8 0 clipA
      ∧ (∀ m k e, PlayerWants (arbitrated o waited true) m k e → m = 8)
      ∧ (∀ m k e, ¬PlayerWants (arbitrated o waited false) m k e)
      ∧ ∀ wants k e, ¬VoiceWants (arbitrated o waited wants) k e := by
  intro o waited
  refine ⟨⟨by decide, by decide, ?_, ?_, ?_, rfl, rfl⟩, ?_, ?_, ?_⟩
  · show PlayerState.loading ≠ .idle
    decide
  · show PlayerState.loading ≠ .releasingRetrigger
    decide
  · show 0 < 4
    decide
  · rintro m k e ⟨h1, h8, h, -⟩
    by_contra hm
    apply h
    interval_cases m <;> first | rfl | exact absurd rfl hm
  · rintro m k e ⟨h1, h8, h, -⟩
    apply h
    interval_cases m <;> rfl
  · rintro wants k e ⟨h, -⟩
    cases wants <;> exact h rfl

theorem witness_arbiter_voice :
    let s := (withClip ready).withRpu { ready.rpu with
      voice := { ready.rpu.voice with state := .loading, copy := some clipA, fetchNext := some 0 } }
    VoiceWants s 0 clipA ∧ (∀ m, (playerOf s m).state = .idle) ∧ s.cmc.transfer = none := by
  refine ⟨⟨?_, ?_, rfl, rfl⟩, fun _ => rfl, rfl⟩
  · show VoiceState.loading ≠ .idle
    decide
  · show 0 < 4
    decide

theorem witness_directory : LinkOpen ready ∧ ready.seq.showState = .setup ∧ saving ready = false
    ∧ sparseRising none ready.cmc.directory = true ∧ inShowTwo.seq.showState = .inShow
    ∧ (1024 + 4 * ((1 * 1 * 4 + 4095) / 4096) - 1 < ready.cmc.capacity
      ∧ 1048572 + 4 * ((1024 * 1 * 4 + 4095) / 4096) - 1 < ready.cmc.capacity)
    ∧ LinkOpen preflightEnding ∧ preflightEnding.cmc.slot = some (.preflight false ⟨1, 1, [], none⟩) := by
  unfold LinkOpen LinkReady
  decide +kernel

/-- The empty show, and one with a cue, a snapshot and a clip, can be held by a file. -/
theorem witness_show_sound : ShowSound 2048 ShowData.default
    ∧ ShowSound 2048 { ShowData.default with
        cues := [⟨⟨9999, 9⟩, true, 600000, .follow, 1, [⟨600000, .timer 8 0 (.call 255 (.zone 24))⟩]⟩]
        snapshots := [(0, [⟨1, 1, 0⟩]), (127, [⟨48, 25, -1536⟩])], directory := [(255, ⟨2044, 1024, 1, some (0, 1024), 0xFFFF⟩)] } := by
  unfold ShowSound CueSound
  decide +kernel

/-- A load in the slot at a phase, its block read from this flash. -/
def loadingAt (p : LoadPhase) (flash : List Host.Cell) : State := ready.withCmc { ready.cmc with
  slot := some (.load true p), transfer := some ⟨.link, .blockRead 0, 0, 2, true⟩, capacity := 2048, flash := flash }

theorem witness_load_phases : ∀ p flash, ∃ x, (loadingAt p flash).cmc.transfer = some x ∧ x.client = .link ∧ x.wanted = true
    ∧ x.extent = .blockRead 0 ∧ 2 ≤ x.elapsed ∧ 0 < (loadingAt p flash).cmc.capacity ∧ (loadingAt p flash).cmc.capacity ≤ 1048576
    ∧ sparseRising (some 0) (loadingAt p flash).seq.entries = true ∧ (loadingAt p flash).seq.entries = []
    ∧ sparseRising none (loadingAt p flash).rpu.zones = true ∧ sparseRising none (loadingAt p flash).fbg.governors = true
    ∧ sparseRising none (loadingAt p flash).tmu.lines = true ∧ sparseRising none (loadingAt p flash).mix.masters = true
    ∧ (loadingAt p flash).cmc.slot = some (.load true p) :=
  fun _ _ => ⟨_, rfl, rfl, rfl, rfl, Nat.le_refl 2, Nat.succ_pos _, Nat.le_of_ble_eq_true rfl, rfl, rfl, rfl, rfl, rfl, rfl, rfl⟩

/-- Without snapshot 0 the start-up load leaves every master 0, and LOAD SHOW the file's (R25, R108). -/
theorem test_masters_after_load :
    let loads (startUp : Bool) : State :=
      completeLoad startUp (.loaded 17 { ShowData.default with masters := List.replicate 25 (-100) }) ready
    masterOf (loads true) 25 = 0 ∧ masterOf (loads false) 25 = -100 := by decide +kernel

/-- What a block begins with, and the contents that read blocks make, take a load each of its ways; so does a CRC, as
`witness_save_reads_back` shows. -/
theorem witness_load_judges :
    let block (flash : List Host.Cell) : List Byte := (List.range 4096).map fun i => flashByte flash (1024 * 0 + i)
    let file := showFile ShowData.default
    let header : List Host.Cell := [(0, 0x56), (1, 0x5A), (2, 0x34), (3, 0x38), (4, 1), (5, 0), (6, 17), (7, 0), (8, 0), (9, 0)]
    examineHeader (block header) = .inr 17 ∧ examineHeader (block []) = .inl .noShow
      ∧ examineHeader (block (header.set 6 (6, 16))) = .inl .format
      ∧ readShow 2048 file = some ShowData.default ∧ readShow 2048 (file.set 10 1) = none := by
  decide +kernel

/-- The empty show's file reads back (R105, R107). -/
theorem test_default_show_reads_back : readShow 2048 (showFile ShowData.default) = some ShowData.default := by
  decide +kernel

/-- The empty show's header gives its length (R105, R107). -/
theorem test_default_show_header : examineHeader (showFile ShowData.default) = .inr (showFile ShowData.default).length := by
  decide +kernel

/-- A cue with an action of each kind reads back from its body (R187). -/
theorem test_cue_reads_back :
    let r : Request := .writeCue ⟨⟨9999, 9⟩, true, 2, 600000, 1,
      [⟨1, .fade 48 25 (-1536) 600000⟩, ⟨2, .snap 127 3⟩, ⟨3, .play 8 255 255 (-1) 4⟩, ⟨4, .stop 8 5⟩,
        ⟨5, .call 255 (.groups 255) 2⟩, ⟨6, .govern 12 (-300)⟩, ⟨7, .timer 8 9 (.call 7 (.zone 24))⟩, ⟨8, .mark 31⟩]⟩
    parseRequest (requestCode r) (requestBody r) = .request r := by decide +kernel

/-- The bytes of READ RUNNING's frame one after the other come to the request (R177). -/
theorem test_bytes_make_a_request :
    (match execAll ((frameOnLink (requestFrameOf 7 .readRunning)).map .linkByteReceived) ready with
      | .next t => some t
      | .fault _ => none
      | .refused _ => none) = some (after (.readRunning 7) ready) := by decide +kernel

end Sys2Proof.Tests
end

section
/-!
SUPPORT. Sparse tables once more: what holds of any table, its indices rising or not, and the search for a free index.
-/

namespace Sys2Proof.Machine

variable {α : Type}

/-- A record put into any table reads back. -/
theorem sparseFind_put_some (m : Sparse α) (k : Nat) (v : α) : sparseFind (sparsePut m k (some v)) k = some v := by
  induction m with
  | nil => simp [sparsePut, sparseFind]
  | cons e rest ih =>
    rw [sparsePut_cons]
    split
    · next hlt => rw [sparseFind, if_neg (by omega)]; exact ih
    · dsimp only; split <;> simp [sparseFind]

/-- A record that is found is listed. -/
theorem mem_of_sparseFind {m : Sparse α} {k : Nat} {v : α} (h : sparseFind m k = some v) : (k, v) ∈ m := by
  induction m with
  | nil => cases h
  | cons e rest ih =>
    rw [sparseFind] at h
    split at h
    · next he => cases h; rw [← he]; exact List.mem_cons_self
    · exact List.mem_cons_of_mem _ (ih h)

/-- Behind the head of a table with rising indices they rise above the head's. -/
theorem sparseRising_tail {low : Option Nat} {e : Nat × α} {rest : Sparse α} (h : sparseRising low (e :: rest) = true) :
    sparseRising (some e.1) rest = true := by
  simp only [sparseRising, Bool.and_eq_true] at h
  exact h.2

/-- What a table lists lies above its lower bound. -/
theorem lt_of_mem_sparseRising {low : Nat} {m : Sparse α} (h : sparseRising (some low) m = true) {e : Nat × α}
    (he : e ∈ m) : low < e.1 := by
  induction m generalizing low with
  | nil => cases he
  | cons f rest ih =>
    have hf : low < f.1 := by
      simp only [sparseRising, Bool.and_eq_true, Option.all_some, decide_eq_true_eq] at h
      exact h.1
    rcases List.mem_cons.mp he with rfl | he
    · exact hf
    · exact hf.trans (ih (sparseRising_tail h) he)

/-- In a table with rising indices a listed record is found. -/
theorem sparseFind_of_mem {low : Option Nat} {m : Sparse α} (h : sparseRising low m = true) {e : Nat × α} (he : e ∈ m) :
    sparseFind m e.1 = some e.2 := by
  induction m generalizing low with
  | nil => cases he
  | cons f rest ih =>
    rcases List.mem_cons.mp he with rfl | he
    · exact if_pos rfl
    · have hlt := lt_of_mem_sparseRising (sparseRising_tail h) he
      rw [sparseFind, if_neg (Nat.ne_of_lt hlt)]
      exact ih (sparseRising_tail h) he

/-- The free index found is the lowest of the range that the table does not list. -/
theorem sparseFree_eq_some {m : Sparse α} {first count k : Nat} (h1 : first ≤ k) (h2 : k < first + count)
    (hk : sparseFind m k = none) (hlow : ∀ j, first ≤ j → j < k → sparseFind m j ≠ none) :
    sparseFree m first count = some k := by
  induction count generalizing first with
  | zero => omega
  | succ c ih =>
    unfold sparseFree
    by_cases hf : first = k
    · subst hf; rw [hk]
    · obtain ⟨v, hv⟩ := Option.ne_none_iff_exists'.mp (hlow first (Nat.le_refl _) (by omega))
      rw [hv]
      exact ih (by omega) (by omega) fun j hj => hlow j (by omega)

/-- No index of a range is free when the table lists them all. -/
theorem sparseFree_eq_none {m : Sparse α} {first count : Nat}
    (h : ∀ j, first ≤ j → j < first + count → sparseFind m j ≠ none) : sparseFree m first count = none := by
  induction count generalizing first with
  | zero => rfl
  | succ c ih =>
    obtain ⟨v, hv⟩ := Option.ne_none_iff_exists'.mp (h first (Nat.le_refl _) (by omega))
    unfold sparseFree
    rw [hv]
    exact ih fun j hj hj' => h j (by omega) (by omega)

end Sys2Proof.Machine
end

section
/-!
SUPPORT. What the shared operations leave unchanged: each equals its state with the one block it writes replaced.
-/

namespace Sys2Proof.Machine

/-- A completion report writes nothing but SEQ. -/
theorem reportComplete_frame (o : Owner) (s : State) : reportComplete o s = s.withSeq (reportComplete o s).seq := by
  unfold reportComplete
  split
  · rfl
  · split <;> rfl

/-- Telling an owner writes nothing but SEQ. -/
theorem tell_frame (o : Option Owner) (s : State) : tell o s = s.withSeq (tell o s).seq := by
  cases o with
  | none => rfl
  | some o => exact reportComplete_frame o s

/-- Telling a fade's owner writes nothing but SEQ. -/
theorem tellFadeOwner_frame (taking : Nat) (owner : FadeOwner) (s : State) :
    tellFadeOwner taking owner s = s.withSeq (tellFadeOwner taking owner s).seq := by
  unfold tellFadeOwner
  split
  · rfl
  · next o => exact reportComplete_frame o s
  · next requester =>
    split
    · exact tell_frame requester s
    · rfl

/-- The freeze of a bus's governor writes nothing but FBG. -/
theorem refreshFreezeOfBus_frame (bus : Nat) (s : State) :
    refreshFreezeOfBus bus s = s.withFbg (refreshFreezeOfBus bus s).fbg := by
  unfold refreshFreezeOfBus
  split <;> rfl

/-- An event writes nothing but EVR. -/
theorem raiseEvent_frame (kind : EventKind) (source : Nat) (detail : List Byte) (s : State) :
    raiseEvent kind source detail s = s.withEvr (raiseEvent kind source detail s).evr := by
  unfold raiseEvent
  split <;> rfl

/-- An event leaves the kind mask. -/
theorem raiseEvent_mask (kind : EventKind) (source : Nat) (detail : List Byte) (s : State) :
    (raiseEvent kind source detail s).evr.mask = s.evr.mask := by
  unfold raiseEvent
  split <;> rfl

/-- An event leaves every slot but its own. -/
theorem raiseEvent_find_other {kind : EventKind} {source i : Nat} (h : i ≠ kind.number * 32 + source)
    (detail : List Byte) (s : State) :
    sparseFind (raiseEvent kind source detail s).evr.slots i = sparseFind s.evr.slots i := by
  unfold raiseEvent
  split
  · rfl
  · exact sparseFind_put_other h _

/-- An event raised stands recorded, unless its kind is masked (R183). -/
theorem raiseEvent_recorded (kind : EventKind) (source : Nat) (detail : List Byte) (s : State) :
    Recorded kind source detail s (raiseEvent kind source detail s) := fun hmask => by
  unfold raiseEvent
  rw [if_neg (by rw [masked, hmask]; exact Bool.false_ne_true)]
  refine ⟨_, sparseFind_put_some .., ?_⟩
  split <;> exact ⟨rfl, rfl⟩

/-- What an event comes to depends on EVR and the show clock alone. -/
theorem raiseEvent_evr_congr {s t : State} (he : t.evr = s.evr) (hc : t.tmu.clock = s.tmu.clock) (kind : EventKind)
    (source : Nat) (detail : List Byte) : (raiseEvent kind source detail t).evr = (raiseEvent kind source detail s).evr := by
  unfold raiseEvent masked
  rw [he, hc]
  split
  · exact he
  · rfl

/-- The arbiter writes nothing but CMC. -/
theorem arbitrate_frame (s : State) : arbitrate s = s.withCmc (arbitrate s).cmc := by
  have hplay (w : Wish) : grantPlayback w s = s.withCmc (grantPlayback w s).cmc := by
    unfold grantPlayback
    dsimp only
    split <;> rfl
  have hdecide : decideGrant s = s.withCmc (decideGrant s).cmc := by
    unfold decideGrant
    split
    · split
      · rfl
      · exact hplay _
    · rfl
    · exact hplay _
    · split <;> rfl
  unfold arbitrate
  split
  · rfl
  · exact hdecide

end Sys2Proof.Machine
end

section
/-!
SUPPORT. The fade-slot table: what a slot filled, ended or stolen comes to, and which slot a request takes (R5 to R8, R12).
-/

namespace Sys2Proof.Machine

/-- What SEQ holds once a fade's owner has been told: nothing new for owner NONE, and for a cue's OUTSTANDING action that
action COMPLETE (R12, R62). -/
def OwnerTold (owner : FadeOwner) (before after : Seq) : Prop :=
  (owner = .none → after = before)
    ∧ ∀ o e, owner = .cue o → sparseFind before.entries o.slot = some e →
        o.index ≠ 0 → e.states[o.index - 1]? = some .outstanding →
        sparseFind after.entries o.slot = some { e with states := e.states.set (o.index - 1) .complete }

/-- A report on an OUTSTANDING action makes it COMPLETE in its entry (R62). -/
theorem reportComplete_of_outstanding {o : Owner} {e : Entry} {s : State} (he : sparseFind s.seq.entries o.slot = some e)
    (hi : o.index ≠ 0) (hs : e.states[o.index - 1]? = some .outstanding) :
    reportComplete o s = setEntry o.slot (some { e with states := e.states.set (o.index - 1) .complete }) s := by
  unfold reportComplete
  rw [he]
  exact if_pos ⟨hi, hs⟩

/-- Telling a fade's owner tells it (R12). -/
theorem tellFadeOwner_told (taking : Nat) (owner : FadeOwner) (s : State) :
    OwnerTold owner s.seq (tellFadeOwner taking owner s).seq := by
  refine ⟨fun h => by rw [h]; rfl, fun o e h he hi hs => ?_⟩
  rw [h, show tellFadeOwner taking (.cue o) s = reportComplete o s from rfl, reportComplete_of_outstanding he hi hs]
  exact sparseFind_put_some _ _ _

/-- Crosspoints in range that differ have different indices (R2). -/
theorem crosspoint_ne {a b c d : Nat} (ha : 1 ≤ a) (hb : 1 ≤ b) (hb' : b ≤ 25) (hc : 1 ≤ c) (hd : 1 ≤ d) (hd' : d ≤ 25)
    (h : a ≠ c ∨ b ≠ d) : crosspoint a b ≠ crosspoint c d := fun he => by
  have := crosspoint_injective ha hb hb' hc hd hd' he
  omega

/-- A slot filled writes the slot, its crosspoint's level, and the bus's governor (R5, R7, R121). -/
theorem fillFadeSlot_frame (k : Nat) (f : FadeSlot) (s : State) :
    ∃ g, fillFadeSlot k f s = (s.withMix { s.mix with
      slots := sparsePut s.mix.slots k (some f)
      levels := sparseWrite off s.mix.levels (crosspoint f.source f.bus) (floored f.start) }).withFbg g :=
  ⟨_, refreshFreezeOfBus_frame _ _⟩

/-- A slot that ends frees the slot, tells the owner, and shows it to the bus's governor (R12, R121). -/
theorem endFadeSlot_frame (taking k : Nat) (f : FadeSlot) (s : State) :
    ∃ q g, endFadeSlot taking k f s = ((setFadeSlot k none s).withSeq q).withFbg g ∧ OwnerTold f.owner s.seq q := by
  refine ⟨_, (endFadeSlot taking k f s).fbg, ?_, tellFadeOwner_told taking f.owner (setFadeSlot k none s)⟩
  rw [← tellFadeOwner_frame]
  exact refreshFreezeOfBus_frame ..

/-- The victim of a steal: its crosspoint at its target, its slot free, its owner told, FADE_STEAL raised (R8). -/
theorem stealFadeSlot_frame (taking k : Nat) (f : FadeSlot) (s : State) :
    ∃ q g, stealFadeSlot taking k f s
        = (((setFadeSlot k none (setLevel f.source f.bus f.target s)).withSeq q).withFbg g).withEvr
            (raiseEvent .fadeSteal 0 (bytesOf 1 k ++ bytesOf 1 f.source ++ bytesOf 1 f.bus) s).evr
      ∧ OwnerTold f.owner s.seq q := by
  obtain ⟨q, g, hend, htold⟩ := endFadeSlot_frame taking k f (setLevel f.source f.bus f.target s)
  refine ⟨q, g, ?_, htold⟩
  unfold stealFadeSlot
  rw [hend, raiseEvent_frame]
  congr 1
  refine raiseEvent_evr_congr (s := s) ?_ ?_ .. <;> rfl

/-- The blocks that no fade touches stand as they were. -/
def Elsewhere (s u : State) : Prop :=
  u.ply = s.ply ∧ u.rpu = s.rpu ∧ u.hsu = s.hsu ∧ u.tmu = s.tmu ∧ u.cst = s.cst ∧ u.cmc = s.cmc

/-- Slot `k` carries `f`, whose crosspoint stands at its floor-substituted start; the other slots and blocks stand (R5). -/
def SlotFilled (k : Nat) (f : FadeSlot) (s u : State) : Prop :=
  sparseFind u.mix.slots k = some f
    ∧ (∀ j, j ≠ k → sparseFind u.mix.slots j = sparseFind s.mix.slots j)
    ∧ levelOf u f.source f.bus = floored f.start ∧ Elsewhere s u

/-- A request that takes a slot over or finds it free fills it (R5 to R7). -/
theorem fillFadeSlot_filled {s : State} (hr : sparseRising none s.mix.levels = true) (k : Nat) (f : FadeSlot) :
    SlotFilled k f s (fillFadeSlot k f s) := by
  obtain ⟨g, hfill⟩ := fillFadeSlot_frame k f s
  rw [hfill]
  exact ⟨sparseFind_put_some .., fun j hj => sparseFind_put_other hj _, sparseRead_write_same _ hr _ _,
    rfl, rfl, rfl, rfl, rfl, rfl⟩

/-- Filling a slot leaves every other crosspoint's level (R5). -/
theorem levelOf_fillFadeSlot_other {a b k : Nat} {f : FadeSlot} (s : State)
    (h : crosspoint a b ≠ crosspoint f.source f.bus) : levelOf (fillFadeSlot k f s) a b = levelOf s a b := by
  obtain ⟨g, hfill⟩ := fillFadeSlot_frame k f s
  rw [hfill]
  exact sparseRead_write_other _ h _

/-- Filling a slot tells no owner. -/
theorem fillFadeSlot_seq (k : Nat) (f : FadeSlot) (s : State) : (fillFadeSlot k f s).seq = s.seq := by
  obtain ⟨g, hfill⟩ := fillFadeSlot_frame k f s
  rw [hfill]
  rfl

/-- Filling a slot raises nothing. -/
theorem fillFadeSlot_evr (k : Nat) (f : FadeSlot) (s : State) : (fillFadeSlot k f s).evr = s.evr := by
  obtain ⟨g, hfill⟩ := fillFadeSlot_frame k f s
  rw [hfill]
  rfl

/-! ### The victim of a steal (R8) -/

/-- No listed slot has less time left than slot `k`, and none with a lower number as little (R8). -/
def Soonest (k : Nat) (v : FadeSlot) (m : Sparse FadeSlot) : Prop :=
  ∀ f ∈ m, v.duration - v.elapsed < f.2.duration - f.2.elapsed
    ∨ (v.duration - v.elapsed = f.2.duration - f.2.elapsed ∧ k ≤ f.1)

/-- A victim is a listed slot. -/
theorem victimOf_mem {m : Sparse FadeSlot} {e : Nat × FadeSlot} (h : victimOf m = some e) : e ∈ m := by
  induction m generalizing e with
  | nil => cases h
  | cons f rest ih =>
    unfold victimOf at h
    split at h
    · cases h; exact List.mem_cons_self
    · next hrest =>
      split at h <;> cases h
      · exact List.mem_cons_self
      · exact List.mem_cons_of_mem _ (ih hrest)

/-- The victim is the listed slot with the least time left, the lowest number among equals (R8). -/
theorem victimOf_eq {low : Option Nat} {m : Sparse FadeSlot} (h : sparseRising low m = true) {k : Nat} {v : FadeSlot}
    (hv : (k, v) ∈ m) (hs : Soonest k v m) : victimOf m = some (k, v) := by
  induction m generalizing low with
  | nil => cases hv
  | cons f rest ih =>
    have hrest : ∀ e ∈ rest, v.duration - v.elapsed ≤ e.2.duration - e.2.elapsed := fun e he => by
      have := hs e (List.mem_cons_of_mem _ he)
      omega
    unfold victimOf
    rcases List.mem_cons.mp hv with rfl | hv
    · split
      · rfl
      · next hvictim => exact if_pos (hrest _ (victimOf_mem hvictim))
    · rw [ih (sparseRising_tail h) hv fun e he => hs e (List.mem_cons_of_mem _ he)]
      have hlater : f.1 < k := lt_of_mem_sparseRising (sparseRising_tail h) hv
      have hfirst := hs f List.mem_cons_self
      exact if_neg (by omega)

end Sys2Proof.Machine
end

section
/-!
SUPPORT. Fade requests: the slot a request takes, and SET CROSSPOINT with a time as such a request (R5 to R9).
-/

namespace Sys2Proof.Machine

/-- The fade a request asks for on a crosspoint of `s` (R5). -/
def requestedFade (s : State) (source bus d : Nat) (x : Level) (owner : FadeOwner) : FadeSlot :=
  { source := source, bus := bus, start := levelOf s source bus, target := max (-1536) (min 192 x)
    duration := min 600000 d, elapsed := 0, owner := owner }

/-- A level stands unclamped when it lies in the range of levels (R1). -/
theorem clampLevel_eq_iff (x : Int) : clampLevel x = x ↔ -1536 ≤ x ∧ x ≤ 192 := by
  show max (-1536) (min 192 x) = x ↔ _
  omega

section
variable {taking source bus d : Nat} {x : Level} {owner : FadeOwner} {s : State}

/-- A timed request on a crosspoint that fades takes the slot over and tells the old owner (R6). -/
theorem fadeRequest_takeover {k : Nat} {f : FadeSlot} (hd : 1 ≤ d)
    (hx : levelOf s source bus ≠ max (-1536) (min 192 x)) (hslot : slotOn s source bus = some (k, f)) :
    fadeRequest taking source bus x d owner s
      = tellFadeOwner taking f.owner (fillFadeSlot k (requestedFade s source bus d x owner) s) := by
  unfold fadeRequest
  rw [hslot]
  exact if_neg (not_or.mpr ⟨by unfold longest; omega, hx⟩)

/-- A timed request on a crosspoint that does not fade needs a slot (R7, R8). -/
theorem fadeRequest_place (hd : 1 ≤ d) (hx : levelOf s source bus ≠ max (-1536) (min 192 x))
    (hslot : slotOn s source bus = none) :
    fadeRequest taking source bus x d owner s = placeFade taking (requestedFade s source bus d x owner) s := by
  unfold fadeRequest
  rw [hslot]
  exact if_neg (not_or.mpr ⟨by unfold longest; omega, hx⟩)

/-- SET CROSSPOINT with a time is a fade request with owner NONE (R9). -/
theorem setCrosspoint_decided (tag : Nat) (hl : LinkOpen s) (hs : 1 ≤ source) (hs' : source ≤ 48) (hb : 1 ≤ bus)
    (hb' : bus ≤ 25) (hd : 1 ≤ d) :
    Decided (.setCrosspoint tag source bus x d) s 0x30 tag
      (if (-1536 ≤ x ∧ x ≤ 192) ∧ d ≤ 600000 then .ok else .okClamped) []
      (fadeRequest 0 source bus x d .none (heard s)) := by
  refine decided_of (.setCrosspoint source bus x d) rfl rfl hl (fun _ h => nomatch h) ?_
  have hrange : crosspointInRange source bus = true := by simp [crosspointInRange, within, hs, hs', hb, hb']
  have hclamped : (clampLevel x ≠ x ∨ longest < d) ↔ ¬((-1536 ≤ x ∧ x ≤ 192) ∧ d ≤ 600000) := by
    rw [ne_eq, clampLevel_eq_iff, not_and_or (b := d ≤ 600000), Nat.not_le]
  show decideSetCrosspoint source bus x d (hunterHome s) = _
  unfold decideSetCrosspoint taken
  rw [if_neg (by simp [hrange]), if_neg (show d ≠ 0 by omega)]
  simp only [hclamped, decide_eq_true_eq, ite_not]

end

/-- Every crosspoint in range but the one named keeps its level. -/
def LevelsElsewhere (source bus : Nat) (s u : State) : Prop :=
  ∀ a b, 1 ≤ a → 1 ≤ b → b ≤ 25 → (a ≠ source ∨ b ≠ bus) → levelOf u a b = levelOf s a b

/-! ### A slot found free (R7) -/

/-- A request that needs a slot fills the lowest free one (R7). -/
theorem placeFade_lowestFree {k : Nat} {s : State} (taking : Nat) (f : FadeSlot) (hk : 1 ≤ k) (hk' : k ≤ 128)
    (hfree : sparseFind s.mix.slots k = none) (hlow : ∀ j, 1 ≤ j → j < k → sparseFind s.mix.slots j ≠ none) :
    placeFade taking f s = fillFadeSlot k f s := by
  unfold placeFade
  rw [sparseFree_eq_some hk (by omega) hfree hlow]

/-- What such a request leaves: the slot filled, all else but the bus's governor as it was (R7). -/
theorem fillFadeSlot_leaves {s : State} {f : FadeSlot} (hr : sparseRising none s.mix.levels = true) (hs : 1 ≤ f.source)
    (hb : 1 ≤ f.bus) (hb' : f.bus ≤ 25) (k : Nat) :
    SlotFilled k f s (fillFadeSlot k f s) ∧ LevelsElsewhere f.source f.bus s (fillFadeSlot k f s)
      ∧ (fillFadeSlot k f s).seq = s.seq ∧ (fillFadeSlot k f s).evr = s.evr :=
  ⟨fillFadeSlot_filled hr k f,
    fun _ _ ha hb1 hb2 hne => levelOf_fillFadeSlot_other s (crosspoint_ne ha hb1 hb2 hs hb hb' hne),
    fillFadeSlot_seq k f s, fillFadeSlot_evr k f s⟩

end Sys2Proof.Machine

open Sys2Proof Sys2Proof.Machine

/-- Settles O36: the request comes to `fillFadeSlot` on the lowest free slot, for every owner and through SET CROSSPOINT
alike, and a filled slot leaves all else. -/
theorem fadeTakesTheLowestFreeSlot : Obligations.FadeTakesTheLowestFreeSlot := by
  unfold Obligations.FadeTakesTheLowestFreeSlot
  intro tag number source bus d k x owner s _ hr hs hs' hb hb' hd hslot hx hk hk' hfree hlow filled
  have hfilled {who : FadeOwner} {u : State} (h : SlotFilled k (requestedFade s source bus d x who) s u
      ∧ LevelsElsewhere source bus s u ∧ u.seq = s.seq ∧ u.evr = s.evr) : filled who u := by
    obtain ⟨⟨hcarried, hothers, hlevel, hply, hrpu, hhsu, htmu, hcst, hcmc⟩, hlevels, hseq, hevr⟩ := h
    exact ⟨hcarried, hothers, hlevel, hlevels, hseq, hply, hrpu, hhsu, htmu, hcst, hcmc, hevr⟩
  refine ⟨?_, fun hl => ⟨_, setCrosspoint_decided tag hl hs hs' hb hb' hd, ?_⟩⟩
  · rw [fadeRequest_place hd hx hslot, placeFade_lowestFree _ _ hk hk' hfree hlow]
    exact hfilled (fillFadeSlot_leaves hr hs hb hb' k)
  · rw [fadeRequest_place (s := heard s) hd hx hslot, placeFade_lowestFree (s := heard s) _ _ hk hk' hfree hlow]
    exact hfilled (fillFadeSlot_leaves (s := heard s) hr hs hb hb' k)

end

section
/-!
SUPPORT. The end of a fade, a fade taken over and a slot stolen: what each leaves (R6, R8, R12).
-/

namespace Sys2Proof.Machine

/-! ### The end (R12) -/

/-- A fade that has not come to its end is left alone. -/
theorem endFade_of_running {k : Nat} {f : FadeSlot} {s : State} (hf : sparseFind s.mix.slots k = some f)
    (h : f.elapsed < f.duration) : endFade k s = s := by
  unfold endFade
  rw [hf]
  exact if_neg (by omega)

/-- A fade at its end goes to its target and its slot ends. -/
theorem endFade_of_ended {k : Nat} {f : FadeSlot} {s : State} (hf : sparseFind s.mix.slots k = some f)
    (h : f.elapsed = f.duration) : endFade k s = endFadeSlot 0 k f (setLevel f.source f.bus f.target s) := by
  unfold endFade
  rw [hf]
  exact if_pos (by omega)

/-- What a fade leaves that goes to its target: the slot free, every other slot and level standing, the owner told. -/
theorem endFadeSlot_at_target {low : Option Nat} {k : Nat} {f : FadeSlot} {s : State}
    (hslots : sparseRising low s.mix.slots = true) (hr : sparseRising none s.mix.levels = true) (hs : 1 ≤ f.source)
    (hb : 1 ≤ f.bus) (hb' : f.bus ≤ 25) (taking : Nat) :
    let u := endFadeSlot taking k f (setLevel f.source f.bus f.target s)
    levelOf u f.source f.bus = f.target ∧ sparseFind u.mix.slots k = none
      ∧ (∀ j, j ≠ k → sparseFind u.mix.slots j = sparseFind s.mix.slots j)
      ∧ LevelsElsewhere f.source f.bus s u ∧ OwnerTold f.owner s.seq u.seq ∧ Elsewhere s u ∧ u.evr = s.evr := by
  obtain ⟨q, g, hend, htold⟩ := endFadeSlot_frame taking k f (setLevel f.source f.bus f.target s)
  dsimp only
  rw [hend]
  exact ⟨sparseRead_write_same _ hr _ _, sparseFind_put_same hslots _ _, fun j hj => sparseFind_put_other hj _,
    fun a b ha hb1 hb2 hne => sparseRead_write_other _ (crosspoint_ne ha hb1 hb2 hs hb hb' hne) _, htold,
    ⟨rfl, rfl, rfl, rfl, rfl, rfl⟩, rfl⟩

/-! ### A fade taken over (R6) -/

/-- What a takeover leaves: the slot filled anew, the old fade's owner told, no event, every other level standing. -/
theorem takeover_leaves {k : Nat} {f new : FadeSlot} {s : State} (hr : sparseRising none s.mix.levels = true)
    (hs : 1 ≤ new.source) (hb : 1 ≤ new.bus) (hb' : new.bus ≤ 25) (taking : Nat) :
    let u := tellFadeOwner taking f.owner (fillFadeSlot k new s)
    SlotFilled k new s u ∧ OwnerTold f.owner s.seq u.seq ∧ u.evr = s.evr ∧ LevelsElsewhere new.source new.bus s u := by
  obtain ⟨hfilled, hlevels, hseq, hevr⟩ := fillFadeSlot_leaves (f := new) hr hs hb hb' k
  have htold := tellFadeOwner_told taking f.owner (fillFadeSlot k new s)
  rw [hseq] at htold
  dsimp only
  rw [tellFadeOwner_frame]
  exact ⟨hfilled, htold, hevr, hlevels⟩

/-! ### A slot stolen (R8) -/

/-- With every slot occupied a request steals the slot with the least time left. -/
theorem placeFade_steal {low : Option Nat} {k : Nat} {v : FadeSlot} {s : State} (taking : Nat) (f : FadeSlot)
    (hslots : sparseRising low s.mix.slots = true) (hfull : ∀ j, 1 ≤ j → j ≤ 128 → sparseFind s.mix.slots j ≠ none)
    (hv : sparseFind s.mix.slots k = some v) (hsoonest : Soonest k v s.mix.slots) :
    placeFade taking f s = fillFadeSlot k f (stealFadeSlot taking k v s) := by
  unfold placeFade
  rw [sparseFree_eq_none fun j hj hj' => hfull j hj (by omega), victimOf_eq hslots (mem_of_sparseFind hv) hsoonest]

/-- What a steal leaves: the slot filled anew, the victim's crosspoint at its target and its owner told, FADE_STEAL raised,
the levels of all other crosspoints standing. -/
theorem steal_leaves {k : Nat} {v new : FadeSlot} {s : State} (hr : sparseRising none s.mix.levels = true)
    (hs : 1 ≤ new.source) (hb : 1 ≤ new.bus) (hb' : new.bus ≤ 25) (hvs : 1 ≤ v.source) (hvb : 1 ≤ v.bus)
    (hvb' : v.bus ≤ 25) (hne : v.source ≠ new.source ∨ v.bus ≠ new.bus) (taking : Nat) :
    let u := fillFadeSlot k new (stealFadeSlot taking k v s)
    SlotFilled k new s u ∧ OwnerTold v.owner s.seq u.seq ∧ levelOf u v.source v.bus = v.target
      ∧ u.evr = (raiseEvent .fadeSteal 0 (bytesOf 1 k ++ bytesOf 1 v.source ++ bytesOf 1 v.bus) s).evr
      ∧ ∀ a b, 1 ≤ a → 1 ≤ b → b ≤ 25 → (a ≠ new.source ∨ b ≠ new.bus) → (a ≠ v.source ∨ b ≠ v.bus) →
          levelOf u a b = levelOf s a b := by
  obtain ⟨q, g, hsteal, htold⟩ := stealFadeSlot_frame taking k v s
  dsimp only
  rw [hsteal]
  have hr' := sparseRising_write off hr (crosspoint v.source v.bus) v.target
  obtain ⟨⟨hcarried, hothers, hlevel, helsewhere⟩, hlevels, hseq, hevr⟩ := fillFadeSlot_leaves (f := new)
    (s := (((setFadeSlot k none (setLevel v.source v.bus v.target s)).withSeq q).withFbg g).withEvr
      (raiseEvent .fadeSteal 0 (bytesOf 1 k ++ bytesOf 1 v.source ++ bytesOf 1 v.bus) s).evr) hr' hs hb hb' k
  refine ⟨⟨hcarried, fun j hj => (hothers j hj).trans (sparseFind_put_other hj _), hlevel, helsewhere⟩, ?_, ?_, hevr,
    fun a b ha hb1 hb2 hnew hvictim => ?_⟩
  · rw [hseq]
    exact htold
  · exact (hlevels _ _ hvs hvb hvb' hne).trans (sparseRead_write_same _ hr _ _)
  · exact (hlevels a b ha hb1 hb2 hnew).trans
      (sparseRead_write_other _ (crosspoint_ne ha hb1 hb2 hvs hvb hvb' hvictim) _)

/-- A crosspoint without a slot is on no slot of the table. -/
theorem ne_of_slotOn_none {source bus : Nat} {s : State} (h : slotOn s source bus = none) {e : Nat × FadeSlot}
    (he : e ∈ s.mix.slots) : e.2.source ≠ source ∨ e.2.bus ≠ bus := by
  have := List.find?_eq_none.mp h e he
  simpa [Classical.or_iff_not_imp_left] using this

end Sys2Proof.Machine

open Sys2Proof Sys2Proof.Machine

/-- Settles O37: the end by `endFadeSlot_at_target`, the takeover by `takeover_leaves` and the steal by `steal_leaves`, the
last two for every owner and through SET CROSSPOINT alike. -/
theorem fadesEndAndAreTakenOverAndStolen : Obligations.FadesEndAndAreTakenOverAndStolen := by
  unfold Obligations.FadesEndAndAreTakenOverAndStolen
  intro s hlaw hr told elsewhere
  obtain ⟨hslots, -, -⟩ := hlaw
  refine ⟨fun k f hf hs hb hb' => ⟨fun h => ?_, fun h => ⟨endFade k s, rfl, ?_⟩⟩, ?_⟩
  · show Host.Outcome.next (settle (endFade k s)) = _
    rw [endFade_of_running hf h]
  · rw [endFade_of_ended hf h]
    exact endFadeSlot_at_target hslots hr hs hb hb' 0
  · intro tag number source bus d x owner hs hs' hb hb' hd hx hrange new filled takenOver stolen asked
    have hdecided (hl : LinkOpen s) := setCrosspoint_decided (x := x) tag hl hs hs' hb hb' hd
    refine ⟨fun k f hslot => ?_, fun hslot hfull k v hv hleast => ?_⟩
    · refine ⟨?_, fun hl => ⟨_, hdecided hl, ?_⟩⟩
      · rw [fadeRequest_takeover hd hx hslot]
        exact takeover_leaves hr hs hb hb' number
      · rw [fadeRequest_takeover (s := heard s) hd hx hslot]
        exact takeover_leaves (s := heard s) hr hs hb hb' 0
    · have hmem := mem_of_sparseFind hv
      obtain ⟨hvs, hvb, hvb'⟩ := hrange _ hmem
      have hne := ne_of_slotOn_none hslot hmem
      have hsoonest : Soonest k v s.mix.slots := fun e he => hleast _ _ (sparseFind_of_mem hslots he)
      refine ⟨?_, fun hl => ⟨_, hdecided hl, ?_⟩⟩
      · rw [fadeRequest_place hd hx hslot, placeFade_steal _ _ hslots hfull hv hsoonest]
        exact steal_leaves hr hs hb hb' hvs hvb hvb' hne number
      · rw [fadeRequest_place (s := heard s) hd hx hslot,
          placeFade_steal (s := heard s) _ _ hslots hfull hv hsoonest]
        obtain ⟨hfilled, htold, htarget, hevr, hlevels⟩ :=
          steal_leaves (s := heard s) (new := requestedFade s source bus d x .none) hr hs hb hb' hvs hvb hvb' hne 0
        exact ⟨hfilled, htold, htarget, hevr.trans (raiseEvent_evr_congr (s := s) (t := heard s) rfl rfl ..), hlevels⟩

end

section
/-!
SUPPORT. The settling of a step where SEQ is quiet (R62 to R64, R98), and operations done for each index in turn.
-/

namespace Sys2Proof.Machine

/-! ### SEQ quiet -/

/-- Where SEQ is quiet no finished entry is over or waits to follow. -/
theorem entry_of_quiet {s : State} (h : QuietSeq s) {slot : Nat} {e : Entry} (he : sparseFind s.seq.entries slot = some e) :
    e.over = false ∧ e.followReady = false := by
  by_cases hfinished : e.finished = true
  · have hdone : e.phase = .done ∧ e.outstanding = 0 := by simpa [Entry.finished] using hfinished
    obtain ⟨habsent, hwaiting, hended⟩ := h _ (mem_of_sparseFind he) hdone.1 hdone.2
    dsimp only at habsent hwaiting hended
    simp [Entry.over, Entry.followReady, habsent, hwaiting, hended]
  · simp [Entry.over, Entry.followReady, hfinished]

/-- What each index leaves alone is left alone by all. -/
theorem forEach_fixed {σ : Type} {f : Nat → σ → σ} {s : σ} (h : ∀ n, f n s = s) (first count : Nat) :
    forEach first count f s = s := by
  induction count generalizing first with
  | zero => rfl
  | succ c ih => rw [forEach, h, ih]

/-- Where SEQ is quiet it takes no consequence (R62 to R64). -/
theorem settleSeq_of_quiet {s : State} (h : QuietSeq s) : settleSeq s = s := by
  have hsweep : sweep s = s := forEach_fixed (fun slot => by
    unfold sweepEntry
    split
    · rfl
    · next e he => rw [(entry_of_quiet h he).1]; rfl) 1 16
  have hfollow (slot : Nat) : startFollow slot s = none := by
    unfold startFollow
    split
    · rfl
    · next e he => rw [(entry_of_quiet h he).2]; rfl
  have hfirst (count slot : Nat) : startFirst count slot s = none := by
    induction count generalizing slot with
    | zero => rfl
    | succ c ih => rw [startFirst, hfollow]; exact ih _
  unfold settleSeq
  rw [hsweep, startAll, hfirst]

/-- Where SEQ is quiet a step's settling is the arbiter's decision, which writes nothing but CMC (R98). -/
theorem settle_of_quiet {s : State} (h : QuietSeq s) : settle s = s.withCmc (arbitrate s).cmc := by
  unfold settle
  rw [settleSeq_of_quiet h]
  exact arbitrate_frame s

/-! ### Index by index -/

/-- What every index keeps, all of them keep. -/
theorem forEach_keeps {σ : Type} {P : σ → Prop} {f : Nat → σ → σ} (h : ∀ n s, P s → P (f n s)) (first count : Nat) {s : σ}
    (hs : P s) : P (forEach first count f s) := by
  induction count generalizing first s with
  | zero => exact hs
  | succ c ih => exact ih _ (h _ _ hs)

/-- What index `m` brings about, when the others keep what it needs before it and what it brings about after it. -/
theorem forEach_at {σ : Type} {P Q : σ → Prop} {f : Nat → σ → σ} {m : Nat} (hbefore : ∀ n s, n ≠ m → P s → P (f n s))
    (hat : ∀ s, P s → Q (f m s)) (hafter : ∀ n s, n ≠ m → Q s → Q (f n s)) {first count : Nat} (h : first ≤ m)
    (h' : m < first + count) {s : σ} (hs : P s) : Q (forEach first count f s) := by
  induction count generalizing first s with
  | zero => omega
  | succ c ih =>
    by_cases hm : first = m
    · subst hm
      have hrest (rest k : Nat) (hk : first < k) {t : σ} (ht : Q t) : Q (forEach k rest f t) := by
        induction rest generalizing k t with
        | zero => exact ht
        | succ r ihr => exact ihr (k + 1) (by omega) (hafter k t (by omega) ht)
      exact hrest c (first + 1) (Nat.lt_succ_self _) (hat s hs)
    · exact ih (by omega) (by omega) (hbefore first s hm hs)

end Sys2Proof.Machine
end

section
/-!
SUPPORT. The sources of a sample period: the selector, the players, the call voice and the page bus (R81, R86, R87, R132, R144,
R145, R163), with what they leave to the buses and zones.
-/

namespace Sys2Proof.Machine

/-- What the sources of a sample period leave alone: the matrix, the governors, HSU, SEQ, the clock, the relay but for the call
voice, and of EVR the mask and the clip slots of the buses. -/
structure Undisturbed (s u : State) : Prop where
  mix : u.mix = s.mix
  fbg : u.fbg = s.fbg
  hsu : u.hsu = s.hsu
  seq : u.seq = s.seq
  clock : u.tmu.clock = s.tmu.clock
  zones : u.rpu.zones = s.rpu.zones
  active : u.rpu.active = s.rpu.active
  settings : u.rpu.settings = s.rpu.settings
  talk : u.rpu.talk = s.rpu.talk
  mask : u.evr.mask = s.evr.mask
  clips : ∀ bus, sparseFind u.evr.slots (17 * 32 + bus) = sparseFind s.evr.slots (17 * 32 + bus)

theorem Undisturbed.refl (s : State) : Undisturbed s s :=
  ⟨rfl, rfl, rfl, rfl, rfl, rfl, rfl, rfl, rfl, rfl, fun _ => rfl⟩

theorem Undisturbed.trans {s t u : State} (h : Undisturbed s t) (h' : Undisturbed t u) : Undisturbed s u :=
  ⟨h'.mix.trans h.mix, h'.fbg.trans h.fbg, h'.hsu.trans h.hsu, h'.seq.trans h.seq, h'.clock.trans h.clock,
    h'.zones.trans h.zones, h'.active.trans h.active, h'.settings.trans h.settings, h'.talk.trans h.talk,
    h'.mask.trans h.mask, fun bus => (h'.clips bus).trans (h.clips bus)⟩

theorem setPlayerRecord_undisturbed (n : Nat) (p : Player) (s : State) : Undisturbed s (setPlayerRecord n p s) :=
  ⟨rfl, rfl, rfl, rfl, rfl, rfl, rfl, rfl, rfl, rfl, fun _ => rfl⟩

theorem setVoice_undisturbed (v : Voice) (s : State) : Undisturbed s (setVoice v s) :=
  ⟨rfl, rfl, rfl, rfl, rfl, rfl, rfl, rfl, rfl, rfl, fun _ => rfl⟩

/-- An underrun of a player or of the call voice is no bus's clip (R87, R145, R184). -/
theorem raiseUnderrun_undisturbed {n : Nat} (hn : n ≤ 9) (clip position : Nat) (s : State) :
    Undisturbed s (raiseUnderrun n clip position s) := by
  unfold raiseUnderrun
  rw [raiseEvent_frame]
  refine ⟨rfl, rfl, rfl, rfl, rfl, rfl, rfl, rfl, rfl, raiseEvent_mask .., fun bus => raiseEvent_find_other ?_ ..⟩
  show 17 * 32 + bus ≠ 4 * 32 + n
  omega

/-- The selector's counts disturb nothing, nor any player (R163). -/
theorem selectorPeriod_split (edge : Bool) (s : State) :
    Undisturbed s (selectorPeriod edge .split s) ∧ (selectorPeriod edge .split s).ply = s.ply
      ∧ (selectorPeriod edge .split s).rpu = s.rpu := by
  cases edge <;> exact ⟨⟨rfl, rfl, rfl, rfl, rfl, rfl, rfl, rfl, rfl, rfl, fun _ => rfl⟩, rfl, rfl⟩

/-! ### The players (R81, R86, R87) -/

/-- What a player's sample period leaves besides: the relay, every other player, and the players' indices rising. -/
structure OnePlayer (n : Nat) (s u : State) : Prop where
  undisturbed : Undisturbed s u
  rpu : u.rpu = s.rpu
  players : ∀ m, m ≠ n → playerOf u m = playerOf s m
  rising : sparseRising none s.ply.players = true → sparseRising none u.ply.players = true

theorem OnePlayer.refl (n : Nat) (s : State) : OnePlayer n s s := ⟨.refl s, rfl, fun _ _ => rfl, id⟩

theorem OnePlayer.trans {n : Nat} {s t u : State} (h : OnePlayer n s t) (h' : OnePlayer n t u) : OnePlayer n s u :=
  ⟨h.undisturbed.trans h'.undisturbed, h'.rpu.trans h.rpu, fun m hm => (h'.players m hm).trans (h.players m hm),
    h'.rising ∘ h.rising⟩

theorem setPlayerRecord_onePlayer (n : Nat) (p : Player) (s : State) : OnePlayer n s (setPlayerRecord n p s) :=
  ⟨setPlayerRecord_undisturbed n p s, rfl, fun _ hm => playerOf_set_other hm p s, fun h => sparseRising_write _ h n p⟩

theorem raiseUnderrun_onePlayer {n : Nat} (hn : n ≤ 9) (clip position : Nat) (s : State) :
    OnePlayer n s (raiseUnderrun n clip position s) := by
  refine ⟨raiseUnderrun_undisturbed hn clip position s, ?_, ?_, ?_⟩ <;> (unfold raiseUnderrun; rw [raiseEvent_frame])
  · rfl
  · exact fun _ _ => rfl
  · exact id

theorem turnPlayer_onePlayer (n : Nat) (s : State) : OnePlayer n s (turnPlayer n s) := by
  unfold turnPlayer
  dsimp only
  split
  · exact .refl n s
  · split
    · exact setPlayerRecord_onePlayer ..
    · exact .refl n s

theorem soundPlayer_onePlayer {n : Nat} (hn : n ≤ 9) (s : State) : OnePlayer n s (soundPlayer n s).2 := by
  unfold soundPlayer
  dsimp only
  split
  case h_1 | h_2 =>
    split
    · exact .refl n s
    · split
      · exact .refl n s
      · split
        · exact setPlayerRecord_onePlayer ..
        · split
          · exact setPlayerRecord_onePlayer ..
          · exact (setPlayerRecord_onePlayer ..).trans (raiseUnderrun_onePlayer hn ..)
  case h_3 | h_4 | h_5 => exact setPlayerRecord_onePlayer ..
  all_goals exact .refl n s

theorem samplePlayer_onePlayer {n : Nat} (hn : n ≤ 9) (s : State) : OnePlayer n s (samplePlayer n s).2 :=
  (turnPlayer_onePlayer n s).trans (soundPlayer_onePlayer hn _)

/-- A player's two samples depend on these fields of its record, and of the buffer on its head alone. -/
theorem playerFrame_congr {s t : State} {n : Nat} (hsample : t.mix.sample = s.mix.sample)
    (hstate : (playerOf t n).state = (playerOf s n).state) (hcopy : (playerOf t n).copy = (playerOf s n).copy)
    (hhead : (playerOf t n).buffer.head? = (playerOf s n).buffer.head?)
    (hposition : (playerOf t n).position = (playerOf s n).position) (hramp : (playerOf t n).ramp = (playerOf s n).ramp)
    (htail : (playerOf t n).tail = (playerOf s n).tail) (hcode : (playerOf t n).code = (playerOf s n).code) :
    playerFrame t n = playerFrame s n := by
  unfold playerFrame
  dsimp only
  rw [hsample, hstate, hcopy, hposition, hramp, htail, hcode]
  cases hs : (playerOf s n).buffer <;> cases ht : (playerOf t n).buffer <;> rw [hs, ht] at hhead
  · cases hhead
  · cases hhead
  · cases hhead
    cases (playerOf s n).state <;> cases (playerOf s n).copy <;> rfl

/-- Another player's sample period leaves a player's samples. -/
theorem playerFrame_onePlayer {n m : Nat} {s u : State} (h : OnePlayer n s u) (hm : m ≠ n) :
    playerFrame u m = playerFrame s m := by
  have hp := h.players m hm
  exact playerFrame_congr (by rw [h.undisturbed.mix]) (by rw [hp]) (by rw [hp]) (by rw [hp]) (by rw [hp]) (by rw [hp])
    (by rw [hp]) (by rw [hp])

/-- A turn taken before the play's first sample leaves that sample (R74). -/
theorem playerFrame_turnPlayer {s : State} (h : sparseRising none s.ply.players = true) (n : Nat) :
    playerFrame (turnPlayer n s) n = playerFrame s n := by
  unfold turnPlayer
  dsimp only
  split
  · rfl
  · next e he =>
    split
    · next howed =>
      have hp := playerOf_set h n ((playerOf s n).takeTurn e)
      refine playerFrame_congr rfl ?_ ?_ ?_ ?_ ?_ ?_ ?_ <;> rw [hp]
      case refine_3 => exact takeTurn_head e _
      all_goals rw [takeTurn_of_owed howed]
    · rfl

/-- What a player sounds is the frame the rule computes (R81, R86, R87). -/
theorem soundPlayer_fst (n : Nat) (s : State) : (soundPlayer n s).1 = playerFrame s n := by
  unfold soundPlayer playerFrame
  dsimp only
  cases hstate : (playerOf s n).state
  case playing | releasingStop =>
    cases hcopy : (playerOf s n).copy with
    | none => rfl
    | some e =>
      cases hbuffer : (playerOf s n).buffer with
      | nil =>
        have hheld : (playerOf s n).held = none := by simp [Player.held, hcopy, hbuffer]
        dsimp only
        rw [hheld]
        split
        · rfl
        · dsimp only
          split <;> rfl
      | cons b rest =>
        dsimp only
        by_cases hposition : (playerOf s n).position < e.length
        · rw [if_neg (Nat.not_le.mpr hposition)]
          by_cases hnumber : b.number = (playerOf s n).position / e.perBlock
          · have hheld : (playerOf s n).held = some (e, b) := by simp [Player.held, hcopy, hbuffer, hnumber]
            rw [hheld, if_pos (And.intro hposition hnumber)]
            rfl
          · have hheld : (playerOf s n).held = none := by simp [Player.held, hcopy, hbuffer, hnumber]
            rw [hheld, if_neg (not_and_of_not_right (_ < _) hnumber)]
            dsimp only
            split <;> rfl
        · rw [if_pos (Nat.not_lt.mp hposition), if_neg (not_and_of_not_left _ hposition)]
  case releasingRetrigger | pausedPlaying | pausedReleasing =>
    dsimp only [Player.tailSample]
    cases (playerOf s n).tail <;> rfl
  all_goals rfl

/-- A player's sample period sounds the frame the rule computes, the turn it owes being taken first (R74, R81). -/
theorem samplePlayer_fst {s : State} (h : sparseRising none s.ply.players = true) (n : Nat) :
    (samplePlayer n s).1 = playerFrame s n :=
  (soundPlayer_fst n _).trans (playerFrame_turnPlayer h n)

/-- The players' samples in player order, each read from the state the period finds, and what they leave (R23, R81). -/
theorem samplePlayers_frames (count : Nat) {n : Nat} {s : State} (h : sparseRising none s.ply.players = true)
    (hn : n + count ≤ 10) :
    (samplePlayers n count s).1 = (List.range' n count).flatMap (fun m => [(playerFrame s m).1, (playerFrame s m).2])
      ∧ Undisturbed s (samplePlayers n count s).2 ∧ (samplePlayers n count s).2.rpu = s.rpu := by
  induction count generalizing n s with
  | zero => exact ⟨rfl, .refl s, rfl⟩
  | succ c ih =>
    have hone := samplePlayer_onePlayer (n := n) (by omega) s
    obtain ⟨hlist, hundisturbed, hrpu⟩ := ih (n := n + 1) (hone.rising h) (by omega)
    refine ⟨?_, hone.undisturbed.trans hundisturbed, hrpu.trans hone.rpu⟩
    show (samplePlayer n s).1.1 :: (samplePlayer n s).1.2 :: (samplePlayers (n + 1) c (samplePlayer n s).2).1 = _
    rw [samplePlayer_fst h, hlist, List.range'_succ, List.flatMap_cons]
    refine congrArg _ (congrArg _ (List.flatMap_congr fun m hm => ?_))
    rw [playerFrame_onePlayer hone (by have := List.mem_range'_1.mp hm; omega)]

/-! ### The call voice and the page bus (R132, R144, R145) -/

theorem sampleVoice_undisturbed (s : State) : Undisturbed s (sampleVoice s).2 := by
  have hunderrun (e : DirEntry) (next : Nat) (v : Voice) : Undisturbed s (sampleVoice.voiceUnderrun e next v s) := by
    unfold sampleVoice.voiceUnderrun
    split
    · exact setVoice_undisturbed _ s
    · exact (setVoice_undisturbed _ s).trans (raiseUnderrun_undisturbed (Nat.le_refl 9) ..)
  unfold sampleVoice
  dsimp only
  split
  · split
    · exact .refl s
    · split
      · split
        · exact setVoice_undisturbed _ s
        · exact hunderrun ..
      · exact hunderrun ..
  · exact .refl s

/-- The page bus reads of the state only what the sources leave alone (R132). -/
theorem pageBusSample_undisturbed {s u : State} (h : Undisturbed s u) (inputs : List Int) (voice : Int) :
    pageBusSample inputs voice u = pageBusSample inputs voice s := by
  unfold pageBusSample
  rw [h.active, h.settings, h.talk, h.mix]

/-- The page-bus sample the rule computes depends on the relay and the sample's place in its millisecond alone (R132). -/
theorem pageSample_congr {s u : State} (hrpu : u.rpu = s.rpu) (hmix : u.mix = s.mix) (inputs : List Int) :
    pageSample inputs u = pageSample inputs s := by
  unfold pageSample
  rw [hrpu, hmix]

/-- What reaches the page bus is the sample the rule computes (R132, R144, R145). -/
theorem pageBusSample_voice (inputs : List Int) (s : State) :
    pageBusSample inputs (sampleVoice s).1 (sampleVoice s).2 = pageSample inputs s := by
  rw [pageBusSample_undisturbed (sampleVoice_undisturbed s)]
  unfold pageBusSample pageSample
  cases s.rpu.active with
  | none => rfl
  | some a =>
    dsimp only
    cases a.page.source with
    | live => rfl
    | clip id =>
      unfold sampleVoice
      dsimp only
      cases s.rpu.voice.state
      case playing =>
        cases s.rpu.voice.copy with
        | none => rfl
        | some e =>
          by_cases hposition : s.rpu.voice.position < e.length
          · dsimp only
            rw [if_neg (Nat.not_le.mpr hposition)]
            cases s.rpu.voice.buffer with
            | nil => rfl
            | cons b rest =>
              dsimp only
              by_cases hnumber : b.number = s.rpu.voice.position / e.perBlock
              · rw [if_pos hnumber, if_pos (And.intro hposition hnumber)]
              · rw [if_neg hnumber, if_neg (not_and_of_not_right (_ < _) hnumber)]
          · dsimp only
            rw [if_pos (Nat.not_lt.mp hposition)]
            cases s.rpu.voice.buffer with
            | nil => rfl
            | cons b rest => exact (if_neg (not_and_of_not_left _ hposition)).symm
      all_goals rfl

end Sys2Proof.Machine
end

section
/-!
SUPPORT. The injections and the buses of a sample period (R19 to R21, R114, R157).
-/

namespace Sys2Proof.Machine

/-! ### The injections (R157) -/

/-- The injections' steps write nothing but HSU. -/
theorem stepInjections_frame (first count : Nat) (s : State) : ∃ h, forEach first count stepInjection s = s.withHsu h :=
  forEach_keeps (P := fun u => ∃ h, u = s.withHsu h) (fun n u hu => by obtain ⟨h, rfl⟩ := hu; exact ⟨_, rfl⟩) first count
    ⟨s.hsu, rfl⟩

/-- A step of another bus's injection leaves a bus's injection. -/
theorem injectionOf_stepInjection_other {b n : Nat} (h : n ≠ b) (s : State) :
    injectionOf (stepInjection n s) b = injectionOf s b := sparseRead_write_other _ h.symm _

/-- Each bus's injection steps once (R157). -/
theorem injectionOf_stepInjections {s : State} (h : sparseRising none s.hsu.injections = true) {first count b : Nat}
    (hb : first ≤ b) (hb' : b < first + count) :
    injectionOf (forEach first count stepInjection s) b = (injectionOf s b).step := by
  refine forEach_at (P := fun u => sparseRising none u.hsu.injections = true ∧ injectionOf u b = injectionOf s b)
    (Q := fun u => injectionOf u b = (injectionOf s b).step) (fun n u hn hu => ?_) (fun u hu => ?_)
    (fun n u hn hu => ?_) hb hb' ⟨h, rfl⟩
  · exact ⟨sparseRising_write _ hu.1 n _, (injectionOf_stepInjection_other hn u).trans hu.2⟩
  · rw [← hu.2]
    exact injectionOf_set hu.1 b _
  · exact (injectionOf_stepInjection_other hn u).trans hu

/-- An injection without a ramp stands (R157). -/
theorem Injection.step_of_none {i : Injection} (h : i.ramp = none) : i.step = i := by
  rw [Injection.step, h]

/-- A ramp's last sample reaches its target, and the ramp ends (R157). -/
theorem Injection.step_of_last {i : Injection} {r : Ramp} (h : i.ramp = some r) (hr : 479 ≤ r.sample) :
    i.step = ⟨r.target, none⟩ := by
  simp [Injection.step, Ramp.code, h, hr]

/-- Before its last sample a ramp moves the code in force, and moves on (R157). -/
theorem Injection.step_of_running {i : Injection} {r : Ramp} (h : i.ramp = some r) (hr : ¬479 ≤ r.sample) :
    i.step = ⟨((r.start : Int) + (((r.target : Int) - r.start) * (r.sample + 1)).tdiv 480).toNat,
      some { r with sample := r.sample + 1 }⟩ := by
  simp only [Injection.step, Ramp.code, h, if_neg hr]

/-! ### The exact sum (R19) -/

/-- A table with a head, read. -/
theorem sparseRead_cons {α : Type} (d : α) (e : Nat × α) (rest : Sparse α) (k : Nat) :
    sparseRead d (e :: rest) k = if e.1 = k then e.2 else sparseRead d rest k := by
  unfold sparseRead
  rw [sparseFind]
  split <;> rfl

/-- A glide at rest on 0 has code 0. -/
theorem Glide.at_rest (n : Nat) : ({} : Glide).at n = 0 := by simp [Glide.at]

/-- A sum over 48 sources of which one can count. -/
theorem sum_sources_single (a : Nat → Int) (P : Prop) [Decidable P] (j : Nat) (hj : 48 ≤ j → a j = 0) :
    ((List.range 48).map fun k => if P ∧ k = j then a k else 0).sum = if P then a j else 0 := by
  show ∑ k ∈ Finset.range 48, (if P ∧ k = j then a k else 0) = _
  by_cases hP : P
  · simp only [hP, true_and, if_true, Finset.sum_ite_eq', Finset.mem_range]
    split
    · rfl
    · exact (hj (by omega)).symm
  · simp [hP]

/-- The sum over the listed codes of a bus is the sum over its 48 sources (R19). -/
theorem busProduct_eq {low : Option Nat} {codes : Sparse Glide} (h : sparseRising low codes = true) {sources : List Int}
    (hs : sources.length ≤ 48) {bus : Nat} (hb : 1 ≤ bus) (hb' : bus ≤ 25) (n : Nat) :
    busProduct sources n bus codes
      = ((List.range 48).map fun k =>
          sources.getD k 0 * (sparseRead ({} : Glide) codes (crosspoint (k + 1) bus)).at n).sum := by
  induction codes generalizing low with
  | nil =>
    have hterm (k : Nat) : sparseRead ({} : Glide) [] (crosspoint (k + 1) bus) = {} := rfl
    simp [busProduct, hterm, Glide.at_rest]
  | cons e rest ih =>
    have hindex (k : Nat) : e.1 = crosspoint (k + 1) bus ↔ busOfIndex e.1 = bus ∧ k = e.1 / 25 := by
      unfold crosspoint busOfIndex
      omega
    have hterm (k : Nat) :
        sources.getD k 0 * (sparseRead ({} : Glide) (e :: rest) (crosspoint (k + 1) bus)).at n
          = (if busOfIndex e.1 = bus ∧ k = e.1 / 25 then sources.getD k 0 * e.2.at n else 0)
            + sources.getD k 0 * (sparseRead ({} : Glide) rest (crosspoint (k + 1) bus)).at n := by
      rw [sparseRead_cons]
      by_cases hk : e.1 = crosspoint (k + 1) bus
      · have hrest : sparseRead ({} : Glide) rest (crosspoint (k + 1) bus) = {} := by
          rw [sparseRead, sparseFind_below (sparseRising_tail h) (Nat.le_of_eq hk.symm)]
          rfl
        rw [if_pos hk, if_pos ((hindex k).mp hk), hrest, Glide.at_rest, mul_zero, add_zero]
      · rw [if_neg hk, if_neg (mt (hindex k).mpr hk), zero_add]
    have hsource : 48 ≤ e.1 / 25 → sources.getD (e.1 / 25) 0 * e.2.at n = 0 := fun hk => by
      rw [List.getD_eq_default _ _ (hs.trans hk), zero_mul]
    simp only [hterm]
    rw [List.sum_map_add, sum_sources_single _ _ _ hsource, ← ih (sparseRising_tail h), busProduct]
    rfl

/-! ### One bus (R19 to R21, R114) -/

/-- What a bus's sample reads and writes of its own stands alike in two states. -/
structure BusSame (bus : Nat) (s u : State) : Prop where
  meter : meterOf u bus = meterOf s bus
  sum : sparseRead 0 u.fbg.sums (bus - 8) = sparseRead 0 s.fbg.sums (bus - 8)
  slot : sparseFind u.evr.slots (17 * 32 + bus) = sparseFind s.evr.slots (17 * 32 + bus)
  mask : u.evr.mask = s.evr.mask
  clock : u.tmu.clock = s.tmu.clock

/-- A bus's rounded sum `sum` is limited, metered, measured, and its clip raised (R19 to R21, R114). -/
structure BusDone (sum : Int) (bus : Nat) (s u : State) : Prop where
  meter : meterOf u bus = (meterOf s bus).after (decide (sat24 sum ≠ sum)) (sat24 sum)
  measured : 9 ≤ bus → bus ≤ 20 →
    sparseRead 0 u.fbg.sums (bus - 8) = sparseRead 0 s.fbg.sums (bus - 8) + (sat24 sum).natAbs ^ 2
  raised : sat24 sum ≠ sum → Recorded .busClip bus (bytesOf 2 (meterOf u bus).clips) s u
  unraised : sat24 sum = sum → sparseFind u.evr.slots (17 * 32 + bus) = sparseFind s.evr.slots (17 * 32 + bus)

theorem BusSame.refl (bus : Nat) (s : State) : BusSame bus s s := ⟨rfl, rfl, rfl, rfl, rfl⟩

theorem BusSame.trans {bus : Nat} {s t u : State} (h : BusSame bus s t) (h' : BusSame bus t u) : BusSame bus s u :=
  ⟨h'.meter.trans h.meter, h'.sum.trans h.sum, h'.slot.trans h.slot, h'.mask.trans h.mask, h'.clock.trans h.clock⟩

theorem BusDone.of_same_before {sum : Int} {bus : Nat} {s t u : State} (hd : BusDone sum bus t u) (h : BusSame bus s t) :
    BusDone sum bus s u :=
  ⟨by rw [hd.meter, h.meter], fun h1 h2 => by rw [hd.measured h1 h2, h.sum],
    fun hc hm => hd.raised hc (by rw [h.mask]; exact hm), fun hc => (hd.unraised hc).trans h.slot⟩

theorem BusDone.of_same_after {sum : Int} {bus : Nat} {s t u : State} (hd : BusDone sum bus s t) (h : BusSame bus t u) :
    BusDone sum bus s u :=
  ⟨h.meter.trans hd.meter, fun h1 h2 => h.sum.trans (hd.measured h1 h2),
    fun hc hm => by
      obtain ⟨e, hfound, hdetail, hlatest⟩ := hd.raised hc hm
      exact ⟨e, h.slot.trans hfound, by rw [h.meter]; exact hdetail, by rw [h.clock]; exact hlatest⟩,
    fun hc => h.slot.trans (hd.unraised hc)⟩

/-- A bus's clips are counted where its sum is limited (R20). -/
theorem BusDone.clips {sum : Int} {bus : Nat} {s u : State} (h : BusDone sum bus s u) :
    (meterOf u bus).clips
      = if sat24 sum = sum then (meterOf s bus).clips else min 65535 ((meterOf s bus).clips + 1) := by
  rw [h.meter]
  by_cases hc : sat24 sum = sum <;> simp [Meter.after, hc, countUp]

/-- What the buses leave alone of `s`: all but the meters, the governors' sums and the event slots. -/
def Metered (s u : State) : Prop :=
  ∃ meters sums slots, u = ((s.withMix { s.mix with meters := meters }).withFbg { s.fbg with sums := sums }).withEvr
      { s.evr with slots := slots }
    ∧ (sparseRising none s.mix.meters = true → sparseRising none meters = true)
    ∧ (sparseRising none s.fbg.sums = true → sparseRising none sums = true)

/-- The state with a bus's sample metered and measured, before its clip is raised (R21, R114). -/
def meterBus (sum : Int) (bus : Nat) (s : State) : State :=
  measureSample bus (sat24 sum) (s.withMix { s.mix with
    meters := sparseWrite {} s.mix.meters bus ((meterOf s bus).after (decide (sat24 sum ≠ sum)) (sat24 sum)) })

/-- A sum in range is metered and measured, and nothing raised (R19). -/
theorem sampleBus_of_within {sources : List Int} {p : Int} {bus : Nat} {s : State}
    (h : sat24 (busSum sources p bus s) = busSum sources p bus s) :
    (sampleBus sources p bus s).2 = meterBus (busSum sources p bus s) bus s := by
  unfold sampleBus
  dsimp only
  exact if_neg (by simp [h])

/-- A sum that is limited is metered and measured, and its clip raised (R20). -/
theorem sampleBus_of_limited {sources : List Int} {p : Int} {bus : Nat} {s : State}
    (h : sat24 (busSum sources p bus s) ≠ busSum sources p bus s) :
    (sampleBus sources p bus s).2
      = raiseEvent .busClip bus
          (bytesOf 2 ((meterOf s bus).after (decide (sat24 (busSum sources p bus s) ≠ busSum sources p bus s))
            (sat24 (busSum sources p bus s))).clips)
          (meterBus (busSum sources p bus s) bus s) := by
  unfold sampleBus
  dsimp only
  exact if_pos (decide_eq_true h)

theorem Metered.refl (s : State) : Metered s s := ⟨_, _, _, rfl, id, id⟩

theorem Metered.trans {s t u : State} (h : Metered s t) (h' : Metered t u) : Metered s u := by
  obtain ⟨m, f, e, rfl, hm, hf⟩ := h
  obtain ⟨m', f', e', rfl, hm', hf'⟩ := h'
  exact ⟨m', f', e', rfl, hm' ∘ hm, hf' ∘ hf⟩

theorem meterBus_metered (sum : Int) (bus : Nat) (s : State) : Metered s (meterBus sum bus s) := by
  unfold meterBus measureSample
  split
  · exact ⟨_, _, _, rfl, fun h => sparseRising_write _ h .., fun h => sparseRising_write _ h ..⟩
  · exact ⟨_, _, _, rfl, fun h => sparseRising_write _ h .., id⟩

theorem raiseEvent_metered (kind : EventKind) (source : Nat) (detail : List Byte) (s : State) :
    Metered s (raiseEvent kind source detail s) := by
  unfold raiseEvent
  split
  · exact .refl s
  · exact ⟨_, _, _, rfl, id, id⟩

theorem sampleBus_metered (sources : List Int) (p : Int) (bus : Nat) (s : State) :
    Metered s (sampleBus sources p bus s).2 := by
  by_cases h : sat24 (busSum sources p bus s) = busSum sources p bus s
  · rw [sampleBus_of_within h]
    exact meterBus_metered ..
  · rw [sampleBus_of_limited h]
    exact (meterBus_metered ..).trans (raiseEvent_metered ..)

/-- The meter and the governor's sum of a bus metered and measured; its event slot stands (R21, R114). -/
theorem meterBus_own {s : State} (hm : sparseRising none s.mix.meters = true) (hf : sparseRising none s.fbg.sums = true)
    (sum : Int) (bus : Nat) :
    meterOf (meterBus sum bus s) bus = (meterOf s bus).after (decide (sat24 sum ≠ sum)) (sat24 sum)
      ∧ (9 ≤ bus → bus ≤ 20 → sparseRead 0 (meterBus sum bus s).fbg.sums (bus - 8)
          = sparseRead 0 s.fbg.sums (bus - 8) + (sat24 sum).natAbs ^ 2)
      ∧ (meterBus sum bus s).evr = s.evr ∧ (meterBus sum bus s).tmu = s.tmu := by
  unfold meterBus measureSample
  split
  · exact ⟨sparseRead_write_same _ hm .., fun _ _ => sparseRead_write_same _ hf .., rfl, rfl⟩
  · next hout => exact ⟨sparseRead_write_same _ hm .., fun h1 h2 => absurd ⟨h1, h2⟩ hout, rfl, rfl⟩

/-- Metering and measuring one bus leaves the others. -/
theorem meterBus_other {m n : Nat} (h : n ≠ m) (sum : Int) (s : State) : BusSame m s (meterBus sum n s) := by
  unfold meterBus measureSample
  split
  · exact ⟨sparseRead_write_other _ h.symm _, sparseRead_write_other _ (by omega) _, rfl, rfl, rfl⟩
  · exact ⟨sparseRead_write_other _ h.symm _, rfl, rfl, rfl, rfl⟩

/-- One bus's clip leaves the others. -/
theorem raiseClip_other {m n : Nat} (h : n ≠ m) (detail : List Byte) (s : State) :
    BusSame m s (raiseEvent .busClip n detail s) := by
  rw [raiseEvent_frame]
  exact ⟨rfl, rfl, raiseEvent_find_other (fun he => h (Nat.add_left_cancel he).symm) .., raiseEvent_mask .., rfl⟩

/-- One bus's sample leaves the others. -/
theorem sampleBus_other {m n : Nat} (h : n ≠ m) (sources : List Int) (p : Int) (s : State) :
    BusSame m s (sampleBus sources p n s).2 := by
  by_cases hc : sat24 (busSum sources p n s) = busSum sources p n s
  · rw [sampleBus_of_within hc]
    exact meterBus_other h ..
  · rw [sampleBus_of_limited hc]
    exact (meterBus_other h ..).trans (raiseClip_other h ..)

/-- A bus's sample does what the rules say of its sum (R19 to R21, R114). -/
theorem sampleBus_done {s : State} (hm : sparseRising none s.mix.meters = true) (hf : sparseRising none s.fbg.sums = true)
    (sources : List Int) (p : Int) (bus : Nat) :
    BusDone (busSum sources p bus s) bus s (sampleBus sources p bus s).2 := by
  obtain ⟨hmeter, hsum, hevr, htmu⟩ := meterBus_own hm hf (busSum sources p bus s) bus
  by_cases hc : sat24 (busSum sources p bus s) = busSum sources p bus s
  · rw [sampleBus_of_within hc]
    exact ⟨hmeter, hsum, fun h => absurd hc h, fun _ => by rw [hevr]⟩
  · rw [sampleBus_of_limited hc, ← hmeter]
    have hraised := raiseEvent_recorded .busClip bus
      (bytesOf 2 (meterOf (meterBus (busSum sources p bus s) bus s) bus).clips) (meterBus (busSum sources p bus s) bus s)
    rw [raiseEvent_frame] at hraised ⊢
    exact ⟨hmeter, hsum, fun _ hmask => hraised (by rw [hevr]; exact hmask), fun h => absurd h hc⟩

/-! ### The 25 buses -/

/-- A bus's rounded sum reads nothing that the buses' samples write. -/
theorem busSum_metered {s u : State} (h : Metered s u) (sources : List Int) (p : Int) (bus : Nat) :
    busSum sources p bus u = busSum sources p bus s := by
  obtain ⟨m, f, e, rfl, -, -⟩ := h
  rfl

/-- The buses are sampled one after the other. -/
theorem sampleBuses_snd (sources : List Int) (p : Int) (first count : Nat) (s : State) :
    (sampleBuses sources p first count s).2 = forEach first count (fun bus t => (sampleBus sources p bus t).2) s := by
  induction count generalizing first s with
  | zero => rfl
  | succ c ih => exact ih _ _

/-- The buses' samples are their limited sums, read from the state they begin in (R19). -/
theorem sampleBuses_fst (sources : List Int) (p : Int) (first count : Nat) (s : State) :
    (sampleBuses sources p first count s).1
      = (List.range' first count).map fun bus => sat24 (busSum sources p bus s) := by
  induction count generalizing first s with
  | zero => rfl
  | succ c ih =>
    show (sampleBus sources p first s).1 :: (sampleBuses sources p (first + 1) c (sampleBus sources p first s).2).1 = _
    rw [ih, List.range'_succ, List.map_cons]
    simp only [busSum_metered (sampleBus_metered sources p first s)]
    rfl

theorem sampleBuses_metered (sources : List Int) (p : Int) (first count : Nat) (s : State) :
    Metered s (sampleBuses sources p first count s).2 := by
  rw [sampleBuses_snd]
  exact forEach_keeps (fun bus t ht => ht.trans (sampleBus_metered sources p bus t)) first count (.refl s)

/-- Each bus is done from the state the buses begin in (R19 to R21, R114). -/
theorem sampleBuses_done {s : State} (hm : sparseRising none s.mix.meters = true) (hf : sparseRising none s.fbg.sums = true)
    (sources : List Int) (p : Int) {first count bus : Nat} (hb : first ≤ bus) (hb' : bus < first + count) :
    BusDone (busSum sources p bus s) bus s (sampleBuses sources p first count s).2 := by
  rw [sampleBuses_snd]
  refine forEach_at (P := fun t => Metered s t ∧ BusSame bus s t)
    (Q := fun t => BusDone (busSum sources p bus s) bus s t) (fun n t hn ht => ?_) (fun t ht => ?_) (fun n t hn ht => ?_)
    hb hb' ⟨.refl s, .refl bus s⟩
  · exact ⟨ht.1.trans (sampleBus_metered sources p n t), ht.2.trans (sampleBus_other hn sources p t)⟩
  · obtain ⟨hmetered, hsame⟩ := ht
    rw [← busSum_metered hmetered]
    obtain ⟨m, f, e, rfl, hm', hf'⟩ := hmetered
    exact (sampleBus_done (hm' hm) (hf' hf) sources p bus).of_same_before hsame
  · exact ht.of_same_after (sampleBus_other hn sources p t)

end Sys2Proof.Machine
end

section
/-!
SUPPORT. The zones of a sample period and the frame it forms (R24, R130).
-/

namespace Sys2Proof.Machine

/-! ### The zones (R130) -/

/-- A zone's rounded sum of relay program and page bus, before it is limited (R130). -/
def Zone.rounded (z : Zone) (r p : Int) (sample : Nat) : Int :=
  roundHalfAway (r * z.gr.at sample + p * z.gp.at sample) (2 ^ 22)

/-- A zone's output sample: its limited sum, 0 for a disabled zone (R130). -/
def Zone.output (z : Zone) (r p : Int) (sample : Nat) : Int :=
  if z.enabled then sat24 (z.rounded r p sample) else 0

/-- A zone's record after a sample: a clip is counted where an enabled zone's sum is limited (R130). -/
def Zone.sampled (z : Zone) (r p : Int) (sample : Nat) : Zone :=
  if z.enabled = true ∧ sat24 (z.rounded r p sample) ≠ z.rounded r p sample then
    { z with clips := countUp 65535 z.clips }
  else z

/-- An enabled zone's clips are counted where its sum is limited (R130). -/
theorem Zone.sampled_of_enabled {z : Zone} (h : z.enabled = true) (r p : Int) (sample : Nat) :
    z.sampled r p sample = { z with
      clips := if sat24 (z.rounded r p sample) = z.rounded r p sample then z.clips else min 65535 (z.clips + 1) } := by
  unfold Zone.sampled
  by_cases hc : sat24 (z.rounded r p sample) = z.rounded r p sample
  · rw [if_neg fun h => h.2 hc, if_pos hc]
  · rw [if_pos ⟨h, hc⟩, if_neg hc]
    rfl

/-- A disabled zone's record stands (R130). -/
theorem Zone.sampled_of_disabled {z : Zone} (h : ¬z.enabled = true) (r p : Int) (sample : Nat) :
    z.sampled r p sample = z := if_neg fun hc => h hc.1

/-- What a zone's sample comes to (R130). -/
theorem sampleZone_fst (r p : Int) (n : Nat) (s : State) :
    (sampleZone r p n s).1 = (zoneOf s n).output r p s.mix.sample := by
  unfold sampleZone Zone.output
  dsimp only
  split <;> rfl

/-- A zone's sample writes nothing but the zone's record (R130). -/
theorem sampleZone_snd (r p : Int) (n : Nat) (s : State) :
    (sampleZone r p n s).2 = s
      ∧ (zoneOf s n).sampled r p s.mix.sample = zoneOf s n
      ∨ (sampleZone r p n s).2 = setZoneRecord n ((zoneOf s n).sampled r p s.mix.sample) s := by
  unfold sampleZone Zone.sampled
  dsimp only
  by_cases he : (zoneOf s n).enabled = true
  · rw [if_pos he]
    by_cases hc : sat24 ((zoneOf s n).rounded r p s.mix.sample) = (zoneOf s n).rounded r p s.mix.sample
    · exact .inl ⟨if_pos hc, if_neg fun h => h.2 hc⟩
    · rw [if_pos (And.intro he hc)]
      exact .inr (if_neg hc)
  · rw [if_neg he]
    exact .inl ⟨rfl, if_neg fun h => he h.1⟩

/-- What the zones leave alone of `s`: all but the relay, whose zones' indices stay rising. -/
def ZonesOnly (s u : State) : Prop :=
  ∃ x, u = s.withRpu x ∧ (sparseRising none s.rpu.zones = true → sparseRising none x.zones = true)

theorem ZonesOnly.trans {s t u : State} (h : ZonesOnly s t) (h' : ZonesOnly t u) : ZonesOnly s u := by
  obtain ⟨x, rfl, hx⟩ := h
  obtain ⟨y, rfl, hy⟩ := h'
  exact ⟨y, rfl, hy ∘ hx⟩

theorem sampleZone_only (r p : Int) (n : Nat) (s : State) : ZonesOnly s (sampleZone r p n s).2 := by
  rcases sampleZone_snd r p n s with ⟨h, -⟩ | h <;> rw [h]
  · exact ⟨_, rfl, id⟩
  · exact ⟨_, rfl, fun hr => sparseRising_put hr _ _ fun _ hl => nomatch hl⟩

/-- A zone's sample leaves every other zone (R130). -/
theorem zoneOf_sampleZone_other {m n : Nat} (h : n ≠ m) (r p : Int) (s : State) :
    zoneOf (sampleZone r p n s).2 m = zoneOf s m := by
  rcases sampleZone_snd r p n s with ⟨hs, -⟩ | hs <;> rw [hs]
  exact zoneOf_set_other h.symm _ s

/-- A zone's record after its sample (R130). -/
theorem zoneOf_sampleZone {s : State} (h : sparseRising none s.rpu.zones = true) (r p : Int) (n : Nat) :
    zoneOf (sampleZone r p n s).2 n = (zoneOf s n).sampled r p s.mix.sample := by
  rcases sampleZone_snd r p n s with ⟨hs, hz⟩ | hs <;> rw [hs]
  · exact hz.symm
  · exact zoneOf_set h n _

/-- The zones are sampled one after the other. -/
theorem sampleZones_snd (r p : Int) (first count : Nat) (s : State) :
    (sampleZones r p first count s).2 = forEach first count (fun n t => (sampleZone r p n t).2) s := by
  induction count generalizing first s with
  | zero => rfl
  | succ c ih => exact ih _ _

/-- The zones' samples, each read from the state the zones begin in (R130). -/
theorem sampleZones_fst (r p : Int) (first count : Nat) (s : State) :
    (sampleZones r p first count s).1
      = (List.range' first count).map fun n => (zoneOf s n).output r p s.mix.sample := by
  induction count generalizing first s with
  | zero => rfl
  | succ c ih =>
    show (sampleZone r p first s).1 :: (sampleZones r p (first + 1) c (sampleZone r p first s).2).1 = _
    have hmix : (sampleZone r p first s).2.mix = s.mix := by
      obtain ⟨x, hx, -⟩ := sampleZone_only r p first s
      rw [hx]
      rfl
    rw [ih, List.range'_succ, List.map_cons, sampleZone_fst]
    refine congrArg _ (List.map_congr_left fun n hn => ?_)
    rw [zoneOf_sampleZone_other (by have := List.mem_range'_1.mp hn; omega), hmix]

theorem sampleZones_only (r p : Int) (first count : Nat) (s : State) :
    ZonesOnly s (sampleZones r p first count s).2 := by
  rw [sampleZones_snd]
  exact forEach_keeps (fun n t ht => ht.trans (sampleZone_only r p n t)) first count ⟨_, rfl, id⟩

/-- Each zone's record after the zones' samples (R130). -/
theorem zoneOf_sampleZones {s : State} (h : sparseRising none s.rpu.zones = true) (r p : Int) {first count n : Nat}
    (hn : first ≤ n) (hn' : n < first + count) :
    zoneOf (sampleZones r p first count s).2 n = (zoneOf s n).sampled r p s.mix.sample := by
  rw [sampleZones_snd]
  refine forEach_at (P := fun t => ZonesOnly s t ∧ zoneOf t n = zoneOf s n)
    (Q := fun t => zoneOf t n = (zoneOf s n).sampled r p s.mix.sample) (fun m t hm ht => ?_) (fun t ht => ?_)
    (fun m t hm ht => ?_) hn hn' ⟨⟨_, rfl, id⟩, rfl⟩
  · exact ⟨ht.1.trans (sampleZone_only r p m t), (zoneOf_sampleZone_other hm r p t).trans ht.2⟩
  · obtain ⟨⟨x, rfl, hx⟩, hz⟩ := ht
    rw [zoneOf_sampleZone (hx h), hz]
    rfl
  · exact (zoneOf_sampleZone_other hm r p t).trans ht

/-! ### The frame (R24) -/

/-- A limited sum lies in the 24-bit range (R19). -/
theorem sat24_range (y : Int) : -8388608 ≤ sat24 y ∧ sat24 y ≤ 8388607 := by
  show -8388608 ≤ max (-8388608) (min 8388607 y) ∧ max (-8388608) (min 8388607 y) ≤ 8388607
  omega

/-- The samples an output frame carries: 24 buses and 24 zones (R24). -/
theorem frame_sample (bus zone : Nat → Int) {i : Nat} (hi : i < 48) :
    (((List.range' 1 25).map bus).take 24 ++ (List.range' 1 24).map zone).getD i 0
      = if i < 24 then bus (i + 1) else zone (i - 23) := by
  have htake : ((List.range' 1 25).map bus).take 24 = (List.range' 1 24).map bus := by
    rw [← List.map_take]
    rfl
  rw [htake, List.getD_eq_getElem?_getD]
  split
  · next h => rw [List.getElem?_append_left (by simpa using h)]; simp [h, Nat.add_comm]
  · next h =>
    rw [List.getElem?_append_right (by simpa using h)]
    simp [show i - 24 < 24 by omega, show 1 + (i - 24) = i - 23 by omega]

theorem ZonesOnly.busSame {s u : State} (h : ZonesOnly s u) (bus : Nat) : BusSame bus s u := by
  obtain ⟨x, rfl, -⟩ := h
  exact ⟨rfl, rfl, rfl, rfl, rfl⟩

theorem ZonesOnly.hsu {s u : State} (h : ZonesOnly s u) : u.hsu = s.hsu := by
  obtain ⟨x, rfl, -⟩ := h
  rfl

theorem Metered.hsu {s u : State} (h : Metered s u) : u.hsu = s.hsu := by
  obtain ⟨m, f, e, rfl, -, -⟩ := h
  rfl

theorem outputFrame_busSame (buses zones : List Int) (s : State) (bus : Nat) :
    BusSame bus s (outputFrame buses zones s) := ⟨rfl, rfl, rfl, rfl, rfl⟩

theorem outputFrame_zoneOf (buses zones : List Int) (s : State) (z : Nat) :
    zoneOf (outputFrame buses zones s) z = zoneOf s z := rfl

theorem outputFrame_hsu (buses zones : List Int) (s : State) : (outputFrame buses zones s).hsu = s.hsu := rfl

/-! ### The outputs -/

/-- What a sample period forms from its sources `sources` and its page-bus sample `p`: the injections step, the buses and the
zones are sampled, and the output frame moves on (R19, R24, R130, R157). -/
def sampleOutputs (sources : List Int) (p : Int) (s : State) : State :=
  let buses := sampleBuses sources p 1 25 (forEach 1 20 stepInjection s)
  let zones := sampleZones (buses.1.getD 24 0) p 1 24 buses.2
  outputFrame buses.1 zones.1 zones.2

/-- A sample period is its sources, its outputs, and the settling (R19). -/
theorem samplePeriod_split (xs : List Int) (edge : Bool) (s : State) :
    let players := samplePlayers 1 8 (selectorPeriod edge .split s)
    let voice := sampleVoice players.2
    exec (.samplePeriod ⟨xs, edge⟩ .split) s
      = .next (settle (sampleOutputs (sourceSamples xs players.1) (pageBusSample xs voice.1 voice.2) voice.2)) := by
  intro players voice
  show Host.Outcome.next (samplePeriod ⟨xs, edge⟩ .split s) = _
  dsimp only [samplePeriod, ifWhole, sampleOutputs, players, voice]

/-- The sources of a sample period, read from the state it finds, and that they leave the outputs' records (R23, R132). -/
theorem samplePeriod_sources {xs : List Int} (hlen : xs.length = 32) (edge : Bool) {s : State}
    (h : sparseRising none s.ply.players = true) :
    let players := samplePlayers 1 8 (selectorPeriod edge .split s)
    let voice := sampleVoice players.2
    sourceSamples xs players.1
        = xs ++ (List.range' 1 8).flatMap (fun n => [(playerFrame s n).1, (playerFrame s n).2])
      ∧ pageBusSample xs voice.1 voice.2 = pageSample xs s ∧ Undisturbed s voice.2 := by
  obtain ⟨hselector, hply, hrpu⟩ := selectorPeriod_split edge s
  obtain ⟨hframes, hplayers, hrpu'⟩ :=
    samplePlayers_frames 8 (n := 1) (s := selectorPeriod edge .split s) (by rw [hply]; exact h) (by omega)
  have hstands := hselector.trans hplayers
  refine ⟨?_, (pageBusSample_voice xs _).trans (pageSample_congr (hrpu'.trans hrpu) hstands.mix xs),
    hstands.trans (sampleVoice_undisturbed _)⟩
  have hframe (n : Nat) : playerFrame (selectorPeriod edge .split s) n = playerFrame s n := by
    cases edge <;> rfl
  unfold sourceSamples
  rw [hframes, List.take_append_of_le_length (Nat.le_of_eq hlen.symm), List.take_of_length_le (Nat.le_of_eq hlen)]
  simp only [hframe]

section
variable (sources : List Int) (p : Int)

/-- The rounded sum of a bus in the outputs, the injections having stepped (R19). -/
def outputSum (s : State) (bus : Nat) : Int := busSum sources p bus (forEach 1 20 stepInjection s)

/-- The state in which the zones are sampled: the injections stepped, the buses sampled. -/
theorem beforeZones_frame (s : State) :
    ∃ h m f e, (sampleBuses sources p 1 25 (forEach 1 20 stepInjection s)).2
      = (((s.withHsu h).withMix { s.mix with meters := m }).withFbg { s.fbg with sums := f }).withEvr
          { s.evr with slots := e } := by
  obtain ⟨h, hinjections⟩ := stepInjections_frame 1 20 s
  obtain ⟨m, f, e, hbuses, -, -⟩ := sampleBuses_metered sources p 1 25 (forEach 1 20 stepInjection s)
  rw [hbuses, hinjections]
  exact ⟨h, m, f, e, rfl⟩

/-- The relay program is the limited sum of bus 25 (R130). -/
theorem relayProgram_eq (s : State) :
    (sampleBuses sources p 1 25 (forEach 1 20 stepInjection s)).1.getD 24 0 = sat24 (outputSum sources p s 25) := by
  rw [sampleBuses_fst]
  rfl

/-- The outputs write MIX's meters and frames, the governors' sums, the event slots, the zones and the injections (R24). -/
theorem sampleOutputs_frame (s : State) :
    ∃ h m f e r, sampleOutputs sources p s
      = outputFrame ((List.range' 1 25).map fun bus => sat24 (outputSum sources p s bus))
          ((List.range' 1 24).map fun z => (zoneOf s z).output (sat24 (outputSum sources p s 25)) p s.mix.sample)
          (((((s.withHsu h).withMix { s.mix with meters := m }).withFbg { s.fbg with sums := f }).withEvr
            { s.evr with slots := e }).withRpu r) := by
  obtain ⟨h, m, f, e, hbuses⟩ := beforeZones_frame sources p s
  obtain ⟨r, hzones, -⟩ := sampleZones_only (sat24 (outputSum sources p s 25)) p 1 24
    (sampleBuses sources p 1 25 (forEach 1 20 stepInjection s)).2
  refine ⟨h, m, f, e, r, ?_⟩
  dsimp only [sampleOutputs]
  rw [relayProgram_eq, hzones, sampleZones_fst, sampleBuses_fst, hbuses]
  rfl

/-- Each bus is done in the outputs (R19 to R21, R114). -/
theorem sampleOutputs_bus {s : State} (hm : sparseRising none s.mix.meters = true)
    (hf : sparseRising none s.fbg.sums = true) {bus : Nat} (hb : 1 ≤ bus) (hb' : bus ≤ 25) :
    BusDone (outputSum sources p s bus) bus s (sampleOutputs sources p s) := by
  obtain ⟨h, hinjections⟩ := stepInjections_frame 1 20 s
  have hbefore : BusSame bus s (forEach 1 20 stepInjection s) := by rw [hinjections]; exact ⟨rfl, rfl, rfl, rfl, rfl⟩
  have hafter : BusSame bus (sampleBuses sources p 1 25 (forEach 1 20 stepInjection s)).2 (sampleOutputs sources p s) :=
    ((sampleZones_only _ p 1 24 _).busSame bus).trans (outputFrame_busSame _ _ _ bus)
  refine (BusDone.of_same_before (sampleBuses_done ?_ ?_ sources p hb (by omega)) hbefore).of_same_after hafter <;>
    rw [hinjections]
  · exact hm
  · exact hf

/-- Each zone's record in the outputs (R130). -/
theorem sampleOutputs_zone {s : State} (hz : sparseRising none s.rpu.zones = true) {z : Nat} (h1 : 1 ≤ z) (h2 : z ≤ 24) :
    zoneOf (sampleOutputs sources p s) z
      = (zoneOf s z).sampled (sat24 (outputSum sources p s 25)) p s.mix.sample := by
  obtain ⟨h, m, f, e, hbuses⟩ := beforeZones_frame sources p s
  unfold sampleOutputs
  rw [outputFrame_zoneOf, relayProgram_eq, zoneOf_sampleZones (by rw [hbuses]; exact hz) _ p h1 (by omega), hbuses]
  rfl

/-- Each injection in the outputs (R157). -/
theorem sampleOutputs_injection {s : State} (h : sparseRising none s.hsu.injections = true) {b : Nat} (h1 : 1 ≤ b)
    (h2 : b ≤ 20) : injectionOf (sampleOutputs sources p s) b = (injectionOf s b).step := by
  have hhsu : (sampleOutputs sources p s).hsu = (forEach 1 20 stepInjection s).hsu := by
    unfold sampleOutputs
    rw [outputFrame_hsu, (sampleZones_only ..).hsu, (sampleBuses_metered ..).hsu]
  rw [← injectionOf_stepInjections h h1 (show b < 1 + 20 by omega), injectionOf, hhsu, injectionOf]

/-- A bus's rounded sum in the outputs, over the 48 sources and the injection in force (R19). -/
theorem outputSum_eq {s : State} (hcodes : sparseRising none s.mix.codes = true)
    (hinjections : sparseRising none s.hsu.injections = true) {sources : List Int} (hlen : sources.length ≤ 48) (p : Int)
    {bus : Nat} (hb : 1 ≤ bus) (hb' : bus ≤ 25) :
    outputSum sources p s bus = roundHalfAway
      (((List.range 48).map fun k =>
          sources.getD k 0 * (sparseRead ({} : Glide) s.mix.codes (crosspoint (k + 1) bus)).at s.mix.sample).sum
        + p * ((if bus ≤ 20 then (injectionOf (sampleOutputs sources p s) bus).code else 0 : Nat) : Int)) (2 ^ 22) := by
  have hcode : injectionInForce (forEach 1 20 stepInjection s) bus
      = if bus ≤ 20 then (injectionOf (sampleOutputs sources p s) bus).code else 0 := by
    unfold injectionInForce
    split
    · next h20 => rw [injectionOf_stepInjections hinjections hb (by omega),
        sampleOutputs_injection sources p hinjections hb h20]
    · rfl
  obtain ⟨h, hframe⟩ := stepInjections_frame 1 20 s
  unfold outputSum busSum
  rw [hcode, hframe]
  exact congrArg (fun x => roundHalfAway (x + _) (2 ^ 22)) (busProduct_eq hcodes hlen hb hb' _)

/-- The outputs leave SEQ. -/
theorem sampleOutputs_seq (s : State) : (sampleOutputs sources p s).seq = s.seq := by
  obtain ⟨h, m, f, e, r, hframe⟩ := sampleOutputs_frame sources p s
  rw [hframe]
  rfl

end

/-- What a sample period leaves at `t` of the state `s` it finds, fed with 48 source samples and a page-bus sample, `sum` being
the rounded sums of its buses (R18 to R21, R24, R114, R130, R157). -/
structure OutputsFormed (sources : List Int) (p : Int) (sum : Nat → Int) (s t : State) : Prop where
  sums : ∀ bus, 1 ≤ bus → bus ≤ 25 → sum bus = roundHalfAway
    (((List.range 48).map fun k =>
        sources.getD k 0 * (sparseRead ({} : Glide) s.mix.codes (crosspoint (k + 1) bus)).at s.mix.sample).sum
      + p * ((if bus ≤ 20 then (injectionOf t bus).code else 0 : Nat) : Int)) (2 ^ 22)
  buses : ∀ bus, 1 ≤ bus → bus ≤ 25 → BusDone (sum bus) bus s t
  injections : ∀ b, 1 ≤ b → b ≤ 20 → injectionOf t b = (injectionOf s b).step
  zones : ∀ z, 1 ≤ z → z ≤ 24 → zoneOf t z = (zoneOf s z).sampled (sat24 (sum 25)) p s.mix.sample
  mix : ∃ m, t.mix = { s.mix with
    meters := m, tdmOut := s.mix.tdmNext, sample := min 47 (s.mix.sample + 1)
    tdmNext := ((List.range' 1 25).map fun bus => sat24 (sum bus)).take 24
      ++ (List.range' 1 24).map fun z => (zoneOf s z).output (sat24 (sum 25)) p s.mix.sample }

/-- The outputs as the state in which the sources leave the part forms them. -/
theorem sampleOutputs_formed {sources : List Int} (hlen : sources.length ≤ 48) (p : Int) {s : State}
    (hcodes : sparseRising none s.mix.codes = true) (hmeters : sparseRising none s.mix.meters = true)
    (hzones : sparseRising none s.rpu.zones = true) (hinjections : sparseRising none s.hsu.injections = true)
    (hsums : sparseRising none s.fbg.sums = true) :
    OutputsFormed sources p (outputSum sources p s) s (sampleOutputs sources p s) where
  sums _ h1 h2 := outputSum_eq hcodes hinjections hlen p h1 h2
  buses _ h1 h2 := sampleOutputs_bus sources p hmeters hsums h1 h2
  injections _ h1 h2 := sampleOutputs_injection sources p hinjections h1 h2
  zones _ h1 h2 := sampleOutputs_zone sources p hzones h1 h2
  mix := by
    obtain ⟨h, m, f, e, r, hframe⟩ := sampleOutputs_frame sources p s
    rw [hframe]
    exact ⟨m, rfl⟩

/-- The outputs belong to the state the period finds, which the sources leave undisturbed. -/
theorem OutputsFormed.of_undisturbed {sources : List Int} {p : Int} {sum : Nat → Int} {s v t : State}
    (h : OutputsFormed sources p sum v t) (hv : Undisturbed s v) : OutputsFormed sources p sum s t := by
  have hzone (z : Nat) : zoneOf v z = zoneOf s z := by rw [zoneOf, hv.zones, zoneOf]
  have hinjection (b : Nat) : injectionOf v b = injectionOf s b := by rw [injectionOf, hv.hsu, injectionOf]
  have hbus (bus : Nat) : BusSame bus s v := ⟨by rw [meterOf, hv.mix, meterOf], by rw [hv.fbg], hv.clips bus, hv.mask, hv.clock⟩
  obtain ⟨hsums, hbuses, hinjections, hzones, hmix⟩ := h
  simp only [hv.mix, hzone, hinjection] at hsums hinjections hzones hmix
  exact ⟨hsums, fun bus h1 h2 => (hbuses bus h1 h2).of_same_before (hbus bus), hinjections, hzones, hmix⟩

/-- The arbiter's decision leaves the outputs. -/
theorem OutputsFormed.withCmc {sources : List Int} {p : Int} {sum : Nat → Int} {s t : State}
    (h : OutputsFormed sources p sum s t) (c : Cmc) : OutputsFormed sources p sum s (t.withCmc c) :=
  ⟨h.sums, fun bus h1 h2 => (h.buses bus h1 h2).of_same_after ⟨rfl, rfl, rfl, rfl, rfl⟩, h.injections, h.zones, h.mix⟩

/-- A sample period that leaves its ends to their rows, SEQ being quiet: its outputs, formed from the sources and the page bus
as the state it finds has them, and the arbiter's decision (R19, R23, R98). -/
theorem samplePeriod_formed {xs : List Int} (hlen : xs.length = 32) (edge : Bool) {s : State} (hquiet : QuietSeq s)
    (hcodes : sparseRising none s.mix.codes = true) (hmeters : sparseRising none s.mix.meters = true)
    (hplayers : sparseRising none s.ply.players = true) (hzones : sparseRising none s.rpu.zones = true)
    (hinjections : sparseRising none s.hsu.injections = true) (hsums : sparseRising none s.fbg.sums = true) :
    ∃ t sum, exec (.samplePeriod ⟨xs, edge⟩ .split) s = .next t
      ∧ OutputsFormed (xs ++ (List.range' 1 8).flatMap fun n => [(playerFrame s n).1, (playerFrame s n).2])
          (pageSample xs s) sum s t := by
  obtain ⟨hsources, hpage, hv⟩ := samplePeriod_sources hlen edge hplayers
  have hexec := samplePeriod_split xs edge s
  dsimp only at hexec
  rw [hsources, hpage] at hexec
  generalize (sampleVoice (samplePlayers 1 8 (selectorPeriod edge .split s)).2).2 = v at hexec hv
  rw [settle_of_quiet (by unfold QuietSeq; rw [sampleOutputs_seq, hv.seq]; exact hquiet)] at hexec
  have hformed := sampleOutputs_formed (s := v) (sources := xs ++ (List.range' 1 8).flatMap fun n =>
    [(playerFrame s n).1, (playerFrame s n).2]) (by simp [hlen]) (pageSample xs s)
    (by rw [hv.mix]; exact hcodes) (by rw [hv.mix]; exact hmeters) (by rw [hv.zones]; exact hzones)
    (by rw [hv.hsu]; exact hinjections) (by rw [hv.fbg]; exact hsums)
  exact ⟨_, _, hexec, (hformed.of_undisturbed hv).withCmc _⟩

/-- Every sample of a frame of limited sums lies in the 24-bit range (R19, R24, R130). -/
theorem frame_range (sum : Nat → Int) (zone : Nat → Zone) (p : Int) (sample : Nat) {y : Int}
    (hy : y ∈ ((List.range' 1 25).map fun bus => sat24 (sum bus)).take 24
      ++ (List.range' 1 24).map fun z => (zone z).output (sat24 (sum 25)) p sample) : -8388608 ≤ y ∧ y ≤ 8388607 := by
  rcases List.mem_append.mp hy with hy | hy
  · obtain ⟨bus, -, rfl⟩ := List.mem_map.mp (List.mem_of_mem_take hy)
    exact sat24_range _
  · obtain ⟨z, -, rfl⟩ := List.mem_map.mp hy
    unfold Zone.output
    split
    · exact sat24_range _
    · omega

end Sys2Proof.Machine

open Sys2Proof Sys2Proof.Machine

/-- Settles O16: the period's outputs (`samplePeriod_formed`) are read off bus by bus, zone by zone and sample by sample of the
frame (`frame_sample`). -/
theorem samplePeriodSumsEverySource : Obligations.SamplePeriodSumsEverySource := by
  unfold Obligations.SamplePeriodSumsEverySource
  intro xs edge s hlen hquiet hcodes hmeters hplayers hzones hinjections hsums
  obtain ⟨t, sum, hexec, hsum, hbus, hinjection, hzone, m, hmix⟩ :=
    samplePeriod_formed hlen edge hquiet hcodes hmeters hplayers hzones hinjections hsums
  refine ⟨t, hexec, ?_⟩
  intro sources p limited sum' zone
  have hsum' (bus : Nat) (h1 : 1 ≤ bus) (h2 : bus ≤ 25) : sum' bus = sum bus := (hsum bus h1 h2).symm
  have hlimited (y : Int) : limited y = sat24 y := rfl
  have hrounded (z : Nat) : zone z = (zoneOf s z).rounded (sat24 (sum 25)) p s.mix.sample := by
    rw [← hsum' 25 (by omega) (by omega)]
    rfl
  clear_value limited sum' zone
  simp only [hlimited, hrounded]
  rw [hmix]
  refine ⟨rfl, by simp, fun y hy => frame_range sum (zoneOf s) p _ hy, rfl, rfl, rfl, rfl, fun b h1 h2 => ?_,
    fun bus h1 h2 => ?_, fun n h1 h2 => ?_, fun bus h1 h2 => ?_, fun z h1 h2 => ?_⟩
  · rw [hinjection b h1 h2]
    cases hramp : (injectionOf s b).ramp with
    | none => exact Injection.step_of_none hramp
    | some r =>
      dsimp only
      split
      · next hlast => exact Injection.step_of_last hramp hlast
      · next hrunning => exact Injection.step_of_running hramp hrunning
  · rw [hsum' bus h1 h2]
    have hdone := hbus bus h1 h2
    exact ⟨congrArg Meter.peak hdone.meter, hdone.clips, hdone.raised, hdone.unraised⟩
  · rw [hsum' (n + 8) (by omega) (by omega)]
    exact (hbus (n + 8) (by omega) (by omega)).measured (by omega) (by omega)
  · rw [hsum' bus h1 (by omega), frame_sample _ _ (show bus - 1 < 48 by omega), if_pos (by omega), Nat.sub_add_cancel h1]
  · have hslot : ¬23 + z < 24 := by omega
    rw [frame_sample _ _ (show 23 + z < 48 by omega), if_neg hslot, Nat.add_sub_cancel_left, hzone z h1 h2]
    unfold Zone.output
    split
    · next henabled => exact ⟨rfl, Zone.sampled_of_enabled henabled ..⟩
    · next hdisabled => exact ⟨rfl, Zone.sampled_of_disabled hdisabled ..⟩

end

section
/-!
SUPPORT. The cue list without one of its cues: what the list, its numbers and the index of every other cue come to (R26, R31,
R48).
-/

namespace Sys2Proof.Machine

/-! ### The order of cue numbers (R26) -/

theorem CueNumber.lt_iff (a b : CueNumber) :
    a.lt b = true ↔ a.major < b.major ∨ (a.major = b.major ∧ a.point < b.point) := by
  simp [CueNumber.lt]

theorem CueNumber.lt_trans {a b c : CueNumber} (hab : a.lt b = true) (hbc : b.lt c = true) : a.lt c = true := by
  rw [CueNumber.lt_iff] at *
  omega

theorem CueNumber.ne_of_lt {a b : CueNumber} (h : a.lt b = true) : a ≠ b := by
  rintro rfl
  rw [CueNumber.lt_iff] at h
  omega

/-- Cue numbers that rise from each cue to the next rise throughout the list. -/
theorem cuesRising_iff_pairwise (cues : List Cue) :
    cuesRising cues = true ↔ cues.Pairwise fun c d => c.number.lt d.number = true := by
  induction cues with
  | nil => simp [cuesRising]
  | cons c rest ih =>
    cases rest with
    | nil => simp [cuesRising]
    | cons d rest =>
      rw [List.pairwise_cons, ← ih]
      simp only [cuesRising, Bool.and_eq_true] at ih ⊢
      refine and_congr_left fun hrest => ⟨fun hcd e he => ?_, fun h => h d List.mem_cons_self⟩
      rcases List.mem_cons.mp he with rfl | he
      · exact hcd
      · exact CueNumber.lt_trans hcd ((List.pairwise_cons.mp (ih.mp hrest)).1 e he)

/-! ### A listed cue -/

/-- The list `cues` carries the cue `c` between `before` and `after`, and no other with its number. -/
structure Listed (c : Cue) (before after cues : List Cue) : Prop where
  split : cues = before ++ c :: after
  before : ∀ d ∈ before, d.number ≠ c.number
  after : ∀ d ∈ after, d.number ≠ c.number

/-- A cue found by its number in a list in number order is the only one with it. -/
theorem listed_of_find {cues : List Cue} (hr : cuesRising cues = true) {n : CueNumber} {c : Cue}
    (hc : cues.find? (fun d => d.number == n) = some c) : c.number = n ∧ ∃ before after, Listed c before after cues := by
  obtain ⟨hn, before, after, rfl, -⟩ := List.find?_eq_some_iff_append.mp hc
  rw [cuesRising_iff_pairwise, List.pairwise_append, List.pairwise_cons] at hr
  obtain ⟨-, ⟨hafter, -⟩, hbefore⟩ := hr
  exact ⟨eq_of_beq hn, before, after, rfl, fun d hd => CueNumber.ne_of_lt (hbefore d hd c List.mem_cons_self),
    fun d hd => (CueNumber.ne_of_lt (hafter d hd)).symm⟩

/-- The number of a listed cue is found at its place. -/
theorem cueIndexFrom_append {c : Cue} {before : List Cue} (h : ∀ d ∈ before, d.number ≠ c.number) (after : List Cue)
    (first : Nat) : cueIndexFrom (before ++ c :: after) c.number first = some (first + before.length) := by
  induction before generalizing first with
  | nil => exact if_pos rfl
  | cons d before ih =>
    obtain ⟨hd, hbefore⟩ := List.forall_mem_cons.mp h
    rw [List.cons_append, cueIndexFrom, if_neg hd, ih hbefore, List.length_cons]
    congr 1
    omega

/-- A number that no cue has is found at no index. -/
theorem cueIndexFrom_eq_none {cues : List Cue} {n : CueNumber} (h : cues.find? (fun c => c.number == n) = none)
    (first : Nat) : cueIndexFrom cues n first = none := by
  induction cues generalizing first with
  | nil => rfl
  | cons c rest ih =>
    obtain ⟨hc, hrest⟩ := List.forall_mem_cons.mp (List.find?_eq_none.mp h)
    rw [cueIndexFrom, if_neg (by simpa using hc)]
    exact ih (List.find?_eq_none.mpr hrest) _

/-! ### The list without that cue -/

/-- Without the cues of a number every other number names what it named. -/
theorem find_without {m n : CueNumber} (h : m ≠ n) (cues : List Cue) :
    (cues.filter fun c => c.number != n).find? (fun c => c.number == m) = cues.find? fun c => c.number == m := by
  rw [List.find?_filter]
  congr 1
  funext c
  by_cases hc : c.number = m <;> simp [hc, h]

/-- Without the cues of a number the number names none. -/
theorem find_without_self (n : CueNumber) (cues : List Cue) :
    (cues.filter fun c => c.number != n).find? (fun c => c.number == n) = none := by
  simp [List.find?_eq_none]

/-- Cues may be taken out of a list in number order. -/
theorem cuesRising_filter {cues : List Cue} (h : cuesRising cues = true) (p : Cue → Bool) :
    cuesRising (cues.filter p) = true :=
  (cuesRising_iff_pairwise _).mpr (((cuesRising_iff_pairwise _).mp h).filter p)

section
variable {c : Cue} {before after cues : List Cue}

/-- The list without a listed cue's number is what stands before the cue and what stands after it. -/
theorem Listed.without (h : Listed c before after cues) :
    (cues.filter fun d => d.number != c.number) = before ++ after := by
  have hbefore : (before.filter fun d => d.number != c.number) = before :=
    List.filter_eq_self.mpr fun d hd => bne_iff_ne.mpr (h.before d hd)
  have hafter : (after.filter fun d => d.number != c.number) = after :=
    List.filter_eq_self.mpr fun d hd => bne_iff_ne.mpr (h.after d hd)
  rw [h.split, List.filter_append, List.filter_cons_of_neg (by simp), hbefore, hafter]

/-- The actions of a listed cue are what the pool gets back (R27, R31). -/
theorem Listed.actions_without (h : Listed c before after cues) :
    ((cues.filter fun d => d.number != c.number).map fun d => d.actions.length).sum + c.actions.length
      = (cues.map fun d => d.actions.length).sum := by
  rw [h.without, h.split]
  simp only [List.map_append, List.map_cons, List.sum_append, List.sum_cons]
  omega

end

/-! ### Indices into the list of a state -/

section
variable {c : Cue} {before after : List Cue} {s t : State}

theorem cueIndex_of_listed (h : Listed c before after s.cst.cues) : cueIndex s c.number = some (before.length + 1) := by
  unfold cueIndex
  rw [h.split, cueIndexFrom_append h.before, Nat.add_comm]

/-- The listed cue stands at its index. -/
theorem cueAt_listed (h : Listed c before after s.cst.cues) : cueAt s (before.length + 1) = some c := by
  simp [cueAt, h.split]

/-- A cue with the listed one's number stands at no other index. -/
theorem index_of_number (h : Listed c before after s.cst.cues) {k : Nat} {d : Cue} (hd : cueAt s k = some d)
    (hn : d.number = c.number) : k = before.length + 1 := by
  unfold cueAt at hd
  split at hd
  · cases hd
  rw [h.split] at hd
  rcases Nat.lt_trichotomy (k - 1) before.length with hk | hk | hk
  · rw [List.getElem?_append_left hk] at hd
    exact absurd hn (h.before d (List.mem_of_getElem? hd))
  · omega
  · obtain ⟨j, hj⟩ := Nat.exists_eq_add_of_lt hk
    rw [List.getElem?_append_right hk.le, hj, Nat.add_assoc, Nat.add_sub_cancel_left, List.getElem?_cons_succ] at hd
    exact absurd hn (h.after d (List.mem_of_getElem? hd))

/-- Below the cue taken out every cue keeps its index (R48). -/
theorem cueAt_below (h : Listed c before after s.cst.cues) (ht : t.cst.cues = before ++ after) {k : Nat}
    (hk : k < before.length + 1) : cueAt t k = cueAt s k := by
  unfold cueAt
  split
  · rfl
  · rw [ht, h.split, List.getElem?_append_left (by omega), List.getElem?_append_left (by omega)]

/-- Above the cue taken out every cue moves down one index (R48). -/
theorem cueAt_above (h : Listed c before after s.cst.cues) (ht : t.cst.cues = before ++ after) {k : Nat}
    (hk : before.length + 1 < k) : cueAt t (k - 1) = cueAt s k := by
  unfold cueAt
  have hplace : k - 1 - before.length = k - 1 - 1 - before.length + 1 := by omega
  rw [if_neg (by omega), if_neg (by omega), ht, h.split, List.getElem?_append_right (by omega),
    List.getElem?_append_right (by omega), hplace, List.getElem?_cons_succ]

/-- Standby has a number where its index carries a cue with that number (R47). -/
theorem standbyNumber_eq_some_iff {m : CueNumber} :
    standbyNumber s = some m ↔ ∃ k d, s.seq.standby = some k ∧ cueAt s k = some d ∧ d.number = m := by
  simp [standbyNumber, Option.bind_eq_some_iff]

/-- The next eligible cue depends on the list and skip-cut alone (R47). -/
theorem nextEligible_congr (hcues : t.cst.cues = s.cst.cues) (hskip : t.seq.skipCut = s.seq.skipCut) (k : Nat) :
    nextEligible t k = nextEligible s k := by
  have hok : eligible t = eligible s := by
    funext c
    simp only [eligible, hskip]
  unfold nextEligible
  rw [hcues, hok]

end

end Sys2Proof.Machine
end

section
/-!
SUPPORT. An edit of the cue list: what standby's report changes, where a deletion leaves standby, and what every edit does to the
preflight (R31, R43, R48, R49, R75, R76).
-/

namespace Sys2Proof.Machine

/-! ### What the players make of a change of standby (R75, R76) -/

/-- All that may differ between the states: the players, and the transfer in flight. -/
def PlayersOnly (s u : State) : Prop :=
  ∃ p t, u = (s.withPly p).withCmc { s.cmc with transfer := t }

theorem PlayersOnly.refl (s : State) : PlayersOnly s s := ⟨s.ply, s.cmc.transfer, rfl⟩

theorem PlayersOnly.trans {s t u : State} (h : PlayersOnly s t) (h' : PlayersOnly t u) : PlayersOnly s u := by
  obtain ⟨p, a, rfl⟩ := h
  obtain ⟨q, b, rfl⟩ := h'
  exact ⟨q, b, rfl⟩

/-- Discarding a transfer writes nothing but the transfer in flight (R97). -/
theorem discardTransfer_frame (client : Client) (s : State) :
    discardTransfer client s = s.withCmc { s.cmc with transfer := (discardTransfer client s).cmc.transfer } := by
  unfold discardTransfer
  split
  · rfl
  · split <;> rfl

theorem setPlayerRecord_playersOnly (n : Nat) (p : Player) (s : State) : PlayersOnly s (setPlayerRecord n p s) :=
  ⟨(setPlayerRecord n p s).ply, s.cmc.transfer, rfl⟩

theorem setPlayerAnew_playersOnly (n : Nat) (p : Player) (s : State) : PlayersOnly s (setPlayerAnew n p s) := by
  unfold setPlayerAnew
  rw [discardTransfer_frame]
  exact ⟨_, _, rfl⟩

theorem leaveStandby_playersOnly (cue : Option CueNumber) (fired : Bool) (s : State) :
    PlayersOnly s (leaveStandby cue fired s) := by
  unfold leaveStandby
  split
  · exact .refl s
  · next c =>
    have hone (n : Nat) (t : State) : PlayersOnly t (leaveStandbyOn c fired n t) := by
      unfold leaveStandbyOn
      dsimp only
      split
      · exact setPlayerRecord_playersOnly ..
      · exact .refl t
    exact forEach_keeps (P := PlayersOnly s) (fun n t ht => ht.trans (hone n t)) 1 8 (.refl s)

theorem preloadPlayer_playersOnly (cue : CueNumber) (n clip : Nat) (e : DirEntry) (s : State) :
    PlayersOnly s (preloadPlayer cue n clip e s) := by
  unfold preloadPlayer
  dsimp only
  split
  · exact setPlayerAnew_playersOnly ..
  · split
    · exact .refl s
    · split
      · split
        · exact setPlayerRecord_playersOnly ..
        · exact .refl s
      · split
        · exact setPlayerAnew_playersOnly ..
        · exact .refl s
  · split
    · exact setPlayerRecord_playersOnly ..
    · exact setPlayerAnew_playersOnly ..
  · exact .refl s

theorem preloadActions_playersOnly (cue : CueNumber) (actions : List Action) (named : List Nat) (s : State) :
    PlayersOnly s (preloadActions cue named actions s) := by
  induction actions generalizing named s with
  | nil => exact .refl s
  | cons a rest ih =>
    unfold preloadActions
    split
    · split
      · exact ih ..
      · refine .trans ?_ (ih ..)
        split
        · exact .refl s
        · exact preloadPlayer_playersOnly ..
    · exact ih ..

/-- A report of standby's change writes nothing but the players and the transfer in flight (R75, R76). -/
theorem standbyChanged_playersOnly (left : Option CueNumber) (fired : Bool) (new : Option CueNumber) (s : State) :
    PlayersOnly s (standbyChanged left fired new s) := by
  unfold standbyChanged
  refine (leaveStandby_playersOnly left fired s).trans ?_
  unfold becomeStandby
  split
  · exact .refl _
  · exact preloadActions_playersOnly ..

/-! ### Standby after a deletion (R48) -/

/-- The cue list of `s` without the cue `c`, nobody told yet. -/
def listWithout (c : Cue) (s : State) : State := setCues (s.cst.cues.filter fun d => d.number != c.number) s

/-- The index that standby has once the cue at an index has been deleted, the list being already without it (R48). -/
def standbyWithout (index : Nat) (s : State) : Option Nat :=
  s.seq.standby.bind fun k =>
    if index < k then some (k - 1) else if k = index then nextEligible s (index - 1) else some k

section
variable {index k : Nat} {s : State}

theorem standbyWithout_of_none (h : s.seq.standby = none) : standbyWithout index s = none := by
  rw [standbyWithout, h, Option.bind_none]

theorem standbyWithout_below (h : s.seq.standby = some k) (hk : k < index) : standbyWithout index s = some k := by
  rw [standbyWithout, h, Option.bind_some, if_neg (by omega), if_neg (by omega)]

theorem standbyWithout_same (h : s.seq.standby = some index) : standbyWithout index s = nextEligible s (index - 1) := by
  rw [standbyWithout, h, Option.bind_some, if_neg (Nat.lt_irrefl _), if_pos rfl]

theorem standbyWithout_above (h : s.seq.standby = some k) (hk : index < k) :
    standbyWithout index s = some (k - 1) := by
  rw [standbyWithout, h, Option.bind_some, if_pos hk]

end

/-- A deletion moves standby and writes the players and the transfer in flight, nothing else (R48, R49). -/
theorem standbyAfterDelete_playersOnly (index : Nat) (left : CueNumber) (s : State) :
    PlayersOnly (s.withSeq { s.seq with standby := standbyWithout index s }) (standbyAfterDelete index left s) := by
  have hstays (h : standbyWithout index s = s.seq.standby) :
      PlayersOnly (s.withSeq { s.seq with standby := standbyWithout index s }) s := by
    rw [h]
    exact .refl s
  unfold standbyAfterDelete
  split
  · next hnone => exact hstays ((standbyWithout_of_none hnone).trans hnone.symm)
  · next k hk =>
    rcases Nat.lt_trichotomy k index with hlt | rfl | hgt
    · rw [if_neg (by omega), if_neg (by omega)]
      exact hstays ((standbyWithout_below hk hlt).trans hk.symm)
    · rw [if_neg (Nat.lt_irrefl _), if_pos rfl, standbyWithout_same hk]
      exact standbyChanged_playersOnly ..
    · rw [if_pos hgt, standbyWithout_above hk hgt]
      exact .refl _

section
variable {c : Cue} {before after : List Cue} {s t : State}

/-- Standby stays on its cue when another is deleted (R48). -/
theorem standbyNumber_without (h : Listed c before after s.cst.cues)
    (hcues : t.cst.cues = (listWithout c s).cst.cues)
    (hstandby : t.seq.standby = standbyWithout (before.length + 1) (listWithout c s)) {m : CueNumber}
    (hm : standbyNumber s = some m) (hne : m ≠ c.number) : standbyNumber t = some m := by
  obtain ⟨k, d, hk, hd, rfl⟩ := standbyNumber_eq_some_iff.mp hm
  have hk' : (listWithout c s).seq.standby = some k := hk
  have hsplit : t.cst.cues = before ++ after := hcues.trans h.without
  rw [standbyNumber_eq_some_iff, hstandby]
  rcases Nat.lt_trichotomy k (before.length + 1) with hlt | rfl | hgt
  · exact ⟨k, d, standbyWithout_below hk' hlt, (cueAt_below h hsplit hlt).trans hd, rfl⟩
  · cases (cueAt_listed h).symm.trans hd
    exact absurd rfl hne
  · exact ⟨k - 1, d, standbyWithout_above hk' hgt, (cueAt_above h hsplit hgt).trans hd, rfl⟩

/-- Standby moves to the next eligible cue when its cue is deleted (R48). -/
theorem standby_of_deleted (h : Listed c before after s.cst.cues) (hcues : t.cst.cues = (listWithout c s).cst.cues)
    (hskip : t.seq.skipCut = s.seq.skipCut)
    (hstandby : t.seq.standby = standbyWithout (before.length + 1) (listWithout c s)) {k : Nat}
    (hk : s.seq.standby = some k) (hm : standbyNumber s = some c.number) :
    t.seq.standby = nextEligible t (k - 1) := by
  obtain ⟨j, d, hj, hd, hn⟩ := standbyNumber_eq_some_iff.mp hm
  cases hk.symm.trans hj
  cases index_of_number h hd hn
  have hk' : (listWithout c s).seq.standby = some (before.length + 1) := hk
  rw [hstandby, standbyWithout_same hk', nextEligible_congr hcues hskip]

end

/-! ### The preflight after an edit (R38, R43) -/

/-- What every edit leaves at `u` of the state `s` it has edited: preflight-clean clear, a preflight aborted, and all else but
the transfer in flight as it was (R38, R43). -/
structure Edited (s u : State) : Prop where
  clean : u.cst.clean = false
  cues : u.cst.cues = s.cst.cues
  snapshots : u.cst.snapshots = s.cst.snapshots
  seq : u.seq = s.seq
  mix : u.mix = s.mix
  ply : u.ply = s.ply
  fbg : u.fbg = s.fbg
  rpu : u.rpu = s.rpu
  hsu : u.hsu = s.hsu
  tmu : u.tmu = s.tmu
  flash : u.cmc.flash = s.cmc.flash
  directory : u.cmc.directory = s.cmc.directory
  aborted : ∀ v w, s.cmc.slot = some (.preflight v w) →
    u.cmc.slot = none ∧ u.cst.report = { s.cst.report with status := .aborted }
      ∧ u.evr = (raiseEvent .opDone 0 [5, 2, 0] s).evr
  kept : (∀ v w, s.cmc.slot ≠ some (.preflight v w)) →
    u.cmc.slot = s.cmc.slot ∧ u.cst.report = s.cst.report ∧ u.evr = s.evr

theorem editMade_of_no_preflight {s : State} (h : ∀ v w, s.cmc.slot ≠ some (.preflight v w)) :
    editMade s = setClean false s := by
  unfold editMade abortPreflight
  split
  · next hslot => exact absurd hslot (h _ _)
  · rfl

theorem editMade_of_preflight {s : State} {v : Bool} {w : Walk} (h : s.cmc.slot = some (.preflight v w)) :
    ∃ t, editMade s =
      ((s.withCst { s.cst with clean := false, report := { s.cst.report with status := .aborted } }).withCmc
        { s.cmc with slot := none, transfer := t }).withEvr (raiseEvent .opDone 0 [5, 2, 0] s).evr := by
  have habort : editMade s = endOperation .preflight 2 0 [] (discardTransfer .verify
      (onReport (fun r => { r with status := .aborted }) (setClean false s))) := by
    unfold editMade abortPreflight
    rw [show (setClean false s).cmc.slot = some (.preflight v w) from h]
  rw [habort, discardTransfer_frame]
  unfold endOperation
  rw [raiseEvent_frame]
  exact ⟨_, congrArg (State.withEvr _) (raiseEvent_evr_congr (by rfl) (by rfl) ..)⟩

theorem editMade_edited (s : State) : Edited s (editMade s) := by
  by_cases h : ∃ v w, s.cmc.slot = some (.preflight v w)
  · obtain ⟨v, w, hslot⟩ := h
    obtain ⟨t, ht⟩ := editMade_of_preflight hslot
    rw [ht]
    exact ⟨rfl, rfl, rfl, rfl, rfl, rfl, rfl, rfl, rfl, rfl, rfl, rfl, fun _ _ _ => ⟨rfl, rfl, rfl⟩,
      fun hno => absurd hslot (hno v w)⟩
  · have hno : ∀ v w, s.cmc.slot ≠ some (.preflight v w) := fun v w hslot => h ⟨v, w, hslot⟩
    rw [editMade_of_no_preflight hno]
    exact ⟨rfl, rfl, rfl, rfl, rfl, rfl, rfl, rfl, rfl, rfl, rfl, rfl, fun v w hslot => absurd hslot (hno v w),
      fun _ => ⟨rfl, rfl, rfl⟩⟩

/-! ### The deletion as a whole (R31) -/

/-- The state with a cue taken out of the list and standby moved, the players not told yet (R31, R48). -/
def withoutCue (c : Cue) (index : Nat) (s : State) : State :=
  (listWithout c s).withSeq { s.seq with standby := standbyWithout index (listWithout c s) }

/-- A deletion: the cue taken out, standby moved, the players told, and then what every edit does (R31). -/
theorem removeCue_edited {c : Cue} {before after : List Cue} {s : State} (h : Listed c before after s.cst.cues) :
    ∃ v, PlayersOnly (withoutCue c (before.length + 1) s) v ∧ Edited v (removeCue c.number s) := by
  unfold removeCue
  rw [cueIndex_of_listed h]
  exact ⟨_, standbyAfterDelete_playersOnly .., editMade_edited _⟩

end Sys2Proof.Machine
end

section
/-!
SUPPORT. DELETE CUE at the link: its refusals in their order, and what it comes to when it is taken (R31, R179).
-/

namespace Sys2Proof.Machine

/-- SAVE SHOW and a show load do not occupy the operation slot together. -/
theorem loading_of_saving {s : State} (h : saving s = true) : loading s = false := by
  unfold saving at h
  split at h
  · next hslot => simp [loading, hslot]
  · cases h

/-- A request that a show load refuses is answered BUSY by the link itself, and nothing is changed (R179). -/
theorem decided_busy_of_loading {i : Instr} {tag code : Nat} (r : Request) {s : State} (h : requestOf i = some (tag, r))
    (hc : requestCode r = code) (hl : LinkReady s) (hload : loading s = true) (hr : takenInLoad r = false) :
    Decided i s code tag .busy [] (heard s) := by
  unfold Decided
  rw [exec_request h, arrive_ready tag r hl, ← hc]
  unfold handRequest
  rw [if_pos ⟨hload, hr⟩]

section
variable {n : CueNumber} {s : State}

theorem decideDeleteCue_inShow (h : s.seq.showState = .inShow) : decideDeleteCue n s = refuse .locked s := by
  simp [decideDeleteCue, inShow, h]

theorem decideDeleteCue_saving (h : s.seq.showState = .setup) (hs : saving s = true) :
    decideDeleteCue n s = refuse .busy s := by
  simp [decideDeleteCue, inShow, h, hs]

section
variable (h : s.seq.showState = .setup) (hs : saving s = false)
include h hs

theorem decideDeleteCue_outOfRange (hn : cueNumberInRange n = false) :
    decideDeleteCue n s = refuse .outOfRange s := by
  simp [decideDeleteCue, inShow, h, hs, hn]

theorem decideDeleteCue_notFound (hn : cueNumberInRange n = true) (hc : cueNamed s n = none) :
    decideDeleteCue n s = refuse .notFound s := by
  have hindex : cueIndex s n = none := cueIndexFrom_eq_none hc 1
  simp [decideDeleteCue, inShow, h, hs, hn, hindex]

variable {c : Cue} {before after : List Cue} (hn : cueNumberInRange c.number = true)
  (hc : Listed c before after s.cst.cues)
include hn hc

theorem decideDeleteCue_inUse (hrun : entryRunning s c.number ≠ none) :
    decideDeleteCue c.number s = refuse .inUse s := by
  have hsome : (entryRunning s c.number).isSome = true := Option.isSome_iff_ne_none.mpr hrun
  simp [decideDeleteCue, inShow, h, hs, hn, cueIndex_of_listed hc, hsome]

theorem decideDeleteCue_taken (hrun : entryRunning s c.number = none) :
    decideDeleteCue c.number s = ⟨.ok, [], removeCue c.number s⟩ := by
  simp [decideDeleteCue, inShow, h, hs, hn, cueIndex_of_listed hc, hrun, taken]

end

end

end Sys2Proof.Machine

open Sys2Proof Sys2Proof.Machine

/-- Settles O32: the refusals are the branches of `decideDeleteCue`, with BUSY of a load from the link; a deletion is read off
`removeCue_edited`, the list being `before ++ after` around the one cue of that number. -/
theorem deleteCueRemovesTheCue : Obligations.DeleteCueRemovesTheCue := by
  unfold Obligations.DeleteCueRemovesTheCue
  intro tag n s hl hr refused
  have hopen (hload : loading s = false) {st : Status} {u : State}
      (ha : decideDeleteCue n (heard s) = ⟨st, [], u⟩) : Decided (.deleteCue tag n) s 0x22 tag st [] u :=
    decided_of (.deleteCue n) rfl rfl ⟨hl, hload⟩ (fun _ h => nomatch h) ha
  refine ⟨fun hload => decided_busy_of_loading (.deleteCue n) rfl rfl hl hload rfl,
    fun hload hshow => hopen hload (decideDeleteCue_inShow (s := heard s) hshow),
    fun hset hsave => hopen (loading_of_saving hsave) (decideDeleteCue_saving (s := heard s) hset hsave),
    fun hload hset hsave => ⟨fun hn => hopen hload (decideDeleteCue_outOfRange (s := heard s) hset hsave hn),
      fun hn hc => hopen hload (decideDeleteCue_notFound (s := heard s) hset hsave hn hc), fun hn hc hrun => ?_,
      fun c hn hc hrun => ?_⟩⟩
  · obtain ⟨c, hc⟩ := Option.ne_none_iff_exists'.mp hc
    obtain ⟨rfl, before, after, hlisted⟩ := listed_of_find hr hc
    exact hopen hload (decideDeleteCue_inUse (s := heard s) hset hsave hn hlisted hrun)
  · obtain ⟨rfl, before, after, hlisted⟩ := listed_of_find hr hc
    obtain ⟨v, ⟨p, x, rfl⟩, hu⟩ := removeCue_edited (s := heard s) hlisted
    refine ⟨_, hopen hload (decideDeleteCue_taken (s := heard s) hset hsave hn hlisted hrun), ?_⟩
    generalize removeCue c.number (heard s) = u at hu
    have hcues : u.cst.cues = s.cst.cues.filter fun d => d.number != c.number := hu.cues
    have hseq : u.seq = { s.seq with standby := standbyWithout (before.length + 1) (listWithout c s) } := hu.seq
    have hstandby : u.seq.standby = standbyWithout (before.length + 1) (listWithout c s) := by rw [hseq]
    have hskip : u.seq.skipCut = s.seq.skipCut := by rw [hseq]
    refine ⟨?_, fun m hm => ?_, ?_, hu.clean, ?_, by rw [hseq], by rw [hseq],
      fun m hm hne => standbyNumber_without hlisted hcues hstandby hm hne,
      fun k hk hm => standby_of_deleted hlisted hcues hskip hstandby hk hm,
      fun hnone => hstandby.trans (standbyWithout_of_none hnone), fun w y hslot => ?_, hu.kept, hu.snapshots, hu.mix,
      hu.fbg, hu.rpu, hu.hsu, hu.tmu, hu.flash, hu.directory⟩
    · rw [cueNamed, hcues, find_without_self]
    · rw [cueNamed, hcues, find_without hm, cueNamed]
    · rw [hcues]
      exact cuesRising_filter hr _
    · rw [hcues]
      exact hlisted.actions_without
    · obtain ⟨hfree, hreport, hevr⟩ := hu.aborted w y hslot
      exact ⟨hfree, hreport, hevr.trans (raiseEvent_evr_congr (by rfl) (by rfl) ..)⟩

end

section
/-!
SUPPORT. The action of a running entry that fires next, and what its firing comes to (R60, R61).
-/

namespace Sys2Proof.Machine

/-! ### The least offset that is due (R60) -/

/-- Action `k` of a list is UNFIRED and due at an elapsed time (R60). -/
def DueAt (elapsed : Nat) (actions : List Action) (states : List ActionState) (k : Nat) (a : Action) : Prop :=
  actions[k]? = some a ∧ states[k]? = some .unfired ∧ a.offset ≤ elapsed

/-- What `dueAction` finds is an action that is due. -/
theorem dueAt_of_dueAction {elapsed : Nat} {actions : List Action} {states : List ActionState} {first : Nat}
    {found : Nat × Nat} (h : dueAction elapsed actions states first = some found) :
    ∃ k a, DueAt elapsed actions states k a ∧ a.offset = found.1 := by
  induction actions generalizing states first with
  | nil => cases h
  | cons c actions ih =>
    cases states with
    | nil => cases h
    | cons st states =>
      have hlater (h : dueAction elapsed actions states (first + 1) = some found) :
          ∃ k a, DueAt elapsed (c :: actions) (st :: states) k a ∧ a.offset = found.1 := by
        obtain ⟨k, a, hdue, hoffset⟩ := ih h
        exact ⟨k + 1, a, hdue, hoffset⟩
      unfold dueAction at h
      dsimp only at h
      split at h
      · next hhead =>
        have hfirst : DueAt elapsed (c :: actions) (st :: states) 0 c := ⟨rfl, congrArg some hhead.1, hhead.2⟩
        split at h
        · cases h; exact ⟨0, c, hfirst, rfl⟩
        · next hrest =>
          split at h
          · cases h; exact ⟨0, c, hfirst, rfl⟩
          · exact hlater (hrest.trans h)
      · exact hlater h

/-- Where no action is due none is found. -/
theorem dueAction_eq_none {elapsed : Nat} {actions : List Action} {states : List ActionState}
    (h : ∀ k a, ¬DueAt elapsed actions states k a) (first : Nat) : dueAction elapsed actions states first = none := by
  by_contra hne
  obtain ⟨found, hfound⟩ := Option.ne_none_iff_exists'.mp hne
  obtain ⟨k, a, hdue, -⟩ := dueAt_of_dueAction hfound
  exact h k a hdue

/-- The due action found is the one with the least offset, the first among equals (R60). -/
theorem dueAction_eq_some {elapsed : Nat} {actions : List Action} {states : List ActionState} {k : Nat} {a : Action}
    (hk : DueAt elapsed actions states k a)
    (hleast : ∀ j b, DueAt elapsed actions states j b → a.offset < b.offset ∨ (a.offset = b.offset ∧ k ≤ j))
    (first : Nat) :
    dueAction elapsed actions states first = some (a.offset, first + k) := by
  induction actions generalizing states k first with
  | nil => cases hk.1
  | cons c actions ih =>
    cases states with
    | nil => cases hk.2.1
    | cons st states =>
      unfold dueAction
      dsimp only
      cases k with
      | zero =>
        obtain ⟨hc, hst, hdue⟩ := hk
        cases hc
        cases hst
        rw [if_pos ⟨rfl, hdue⟩]
        split
        · rfl
        · next l hl =>
          obtain ⟨j, b, hb, hoffset⟩ := dueAt_of_dueAction hl
          have := hleast (j + 1) b hb
          exact if_pos (by omega)
      | succ k =>
        have hbehind : dueAction elapsed actions states (first + 1) = some (a.offset, first + (k + 1)) := by
          have hleast' (j : Nat) (b : Action) (hb : DueAt elapsed actions states j b) :
              a.offset < b.offset ∨ (a.offset = b.offset ∧ k ≤ j) := by
            have := hleast (j + 1) b hb
            omega
          rw [ih hk hleast' (first + 1)]
          congr 2
          omega
        rw [hbehind]
        split
        · next hhead =>
          have := hleast 0 c ⟨rfl, congrArg some hhead.1, hhead.2⟩
          exact if_neg (by dsimp only; omega)
        · rfl

/-! ### The firing (R59, R61) -/

/-- The state of an action that has been handed to its owning block (R61). -/
def firedState (w : Work) : ActionState := if tracked w then .outstanding else .complete

/-- An ACTIVE entry is DONE once none of its actions is UNFIRED, and stays ACTIVE until then (R59). -/
theorem phased_of_active {e : Entry} (h : e.phase = .active) :
    e.phased = { e with phase := if e.states.contains .unfired then .active else .done } := by
  unfold Entry.phased
  cases hunfired : e.states.contains .unfired with
  | true => rw [if_neg (by simp), if_pos rfl, ← h]
  | false => rw [if_pos ⟨h, rfl⟩, if_neg Bool.false_ne_true]

/-- The action that fires next, when hold is not effective, is marked in its entry and handed to its owning block (R61). -/
theorem actionFire_of_nextDue {slot index : Nat} {e : Entry} {a : Action} {s : State}
    (he : sparseFind s.seq.entries slot = some e) (hnext : e.nextDue = some (index + 1))
    (ha : e.cue.actions[index]? = some a) (hhold : s.hsu.holdEffective = false) :
    actionFire slot (index + 1) s = handOver ⟨slot, index + 1⟩ e.cue.number a.work
      (setEntry slot (some ({ e with states := e.states.set index (firedState a.work) }).phased) s) := by
  unfold actionFire
  rw [he, Option.bind_some, if_pos ⟨hnext, hhold⟩]
  unfold fireAction
  rw [he]
  dsimp only
  rw [Nat.add_sub_cancel, ha]
  rfl

end Sys2Proof.Machine

open Sys2Proof Sys2Proof.Machine

/-- Settles O29: the statement's least due action is the one `dueAction` finds (`dueAction_eq_some`), and its firing is
`actionFire_of_nextDue`. -/
theorem actionsFireInOrderOfOffset : Obligations.ActionsFireInOrderOfOffset := by
  unfold Obligations.ActionsFireInOrderOfOffset
  intro slot index e a s he hactive ha _ ⟨hunfired, hdue, hleast⟩ hhold states fired
  have hnext : e.nextDue = some (index + 1) := by
    have hfound := dueAction_eq_some ⟨ha, hunfired, hdue⟩ (fun j b hb => hleast j b hb.1 hb.2.1 hb.2.2) 1
    rw [Entry.nextDue, if_pos hactive, hfound, Option.map_some, Nat.add_comm]
  have hfired : ({ e with states := e.states.set index (firedState a.work) } : Entry).phased = fired :=
    phased_of_active hactive
  have hexec : exec (.actionFire slot (index + 1)) s = .next (settle (actionFire slot (index + 1) s)) := rfl
  rw [hexec, actionFire_of_nextDue he hnext ha hhold, hfired]

end

section
/-!
SUPPORT. The steps of a running entry in the order of the model's definitions: its prewait's end, its removal, its postwait's
expiry and the GO that follows (R55, R60, R63, R64), each with what it leaves to the players and the reporter.
-/

namespace Sys2Proof.Machine

/-! ### What the players and the reporter make of a step -/

/-- All that may differ between the states: the players, the clip memory and the events. -/
def ReportsOnly (s u : State) : Prop :=
  ∃ p c e, u = ((s.withPly p).withCmc c).withEvr e

theorem ReportsOnly.refl (s : State) : ReportsOnly s s := ⟨s.ply, s.cmc, s.evr, rfl⟩

theorem ReportsOnly.trans {s t u : State} (h : ReportsOnly s t) (h' : ReportsOnly t u) : ReportsOnly s u := by
  obtain ⟨p, c, e, rfl⟩ := h
  obtain ⟨q, d, f, rfl⟩ := h'
  exact ⟨q, d, f, rfl⟩

theorem ReportsOnly.seq {s u : State} (h : ReportsOnly s u) : u.seq = s.seq := by
  obtain ⟨p, c, e, rfl⟩ := h
  rfl

theorem PlayersOnly.reportsOnly {s u : State} (h : PlayersOnly s u) : ReportsOnly s u := by
  obtain ⟨p, t, rfl⟩ := h
  exact ⟨p, { s.cmc with transfer := t }, s.evr, rfl⟩

/-- What the players and the reporter make of a step that has written the table leaves the other blocks. -/
theorem ReportsOnly.elsewhere {s u : State} {q : Seq} (h : ReportsOnly (s.withSeq q) u) :
    u.mix = s.mix ∧ u.rpu = s.rpu ∧ u.tmu = s.tmu ∧ u.cst = s.cst := by
  obtain ⟨p, c, e, rfl⟩ := h
  exact ⟨rfl, rfl, rfl, rfl⟩

theorem raiseEvent_reportsOnly (kind : EventKind) (source : Nat) (detail : List Byte) (s : State) :
    ReportsOnly s (raiseEvent kind source detail s) :=
  ⟨s.ply, s.cmc, (raiseEvent kind source detail s).evr, raiseEvent_frame ..⟩

/-- The removal of an entry writes the table, the players and the transfer in flight (R64, R76). -/
theorem takeOut_playersOnly (slot : Nat) (cue : CueNumber) (s : State) :
    PlayersOnly (setEntry slot none s) (takeOut slot cue s) := by
  have hone (n : Nat) (t : State) : PlayersOnly t (entryEndedOn cue n t) := by
    unfold entryEndedOn
    dsimp only
    split
    · exact setPlayerRecord_playersOnly ..
    · exact .refl t
  exact forEach_keeps (P := PlayersOnly (setEntry slot none s)) (fun n t ht => ht.trans (hone n t)) 1 8 (.refl _)

/-- Where SEQ is quiet a step's settling leaves the show to itself. -/
theorem settle_reportsOnly {s : State} (h : QuietSeq s) : ReportsOnly s (settle s) :=
  ⟨s.ply, (arbitrate s).cmc, s.evr, settle_of_quiet h⟩

/-! ### A table of one entry (R59) -/

theorem sparseFind_single {α : Type} (k : Nat) (v : α) : sparseFind [(k, v)] k = some v := if_pos rfl

theorem sparsePut_single_some {α : Type} (k : Nat) (v w : α) : sparsePut [(k, v)] k (some w) = [(k, w)] := by
  simp [sparsePut]

theorem sparsePut_single_none {α : Type} (k : Nat) (v : α) : sparsePut [(k, v)] k none = [] := by
  simp [sparsePut]

theorem setEntry_seq (slot : Nat) (x : Option Entry) (s : State) :
    (setEntry slot x s).seq = { s.seq with entries := sparsePut s.seq.entries slot x } := rfl

/-- Where no entry runs SEQ is quiet. -/
theorem quietSeq_of_empty {s : State} (h : s.seq.entries = []) : QuietSeq s := fun e he => by
  rw [h] at he
  cases he

/-- Where the only entry is not DONE SEQ is quiet. -/
theorem quietSeq_of_single {slot : Nat} {e : Entry} {s : State} (h : s.seq.entries = [(slot, e)]) (he : e.phase ≠ .done) :
    QuietSeq s := fun x hx hdone => by
  rw [h] at hx
  cases List.mem_singleton.mp hx
  exact absurd hdone he

/-! ### Removals (R64) -/

/-- An entry removed from the table, with CUE_DONE and its follow outcome (R64). -/
def removedWith (outcome : FollowOutcome) (slot : Nat) (cue : CueNumber) (s : State) : State :=
  raiseCueDone cue outcome (takeOut slot cue s)

theorem sweepEntry_of_absent {slot : Nat} {s : State} (h : sparseFind s.seq.entries slot = none) :
    sweepEntry slot s = s := by
  unfold sweepEntry
  rw [h]

theorem sweepEntry_of_waiting {slot : Nat} {e : Entry} {s : State} (he : sparseFind s.seq.entries slot = some e)
    (h : e.over = false) : sweepEntry slot s = s := by
  unfold sweepEntry
  rw [he]
  exact if_neg (by simp [h])

theorem sweepEntry_of_over {slot : Nat} {e : Entry} {s : State} (he : sparseFind s.seq.entries slot = some e)
    (h : e.over = true) :
    sweepEntry slot s = removedWith e.outcome slot e.cue.number s := by
  unfold sweepEntry
  rw [he]
  exact if_pos h

/-- Where SEQ is quiet nothing is removed. -/
theorem sweep_of_quiet {s : State} (h : QuietSeq s) : sweep s = s :=
  forEach_fixed (fun slot => by
    cases he : sparseFind s.seq.entries slot with
    | none => exact sweepEntry_of_absent he
    | some e => exact sweepEntry_of_waiting he (entry_of_quiet h he).1) 1 16

/-- A removal writes the table, and what the players and the reporter make of it. -/
theorem removedWith_reportsOnly (outcome : FollowOutcome) (slot : Nat) (cue : CueNumber) (s : State) :
    ReportsOnly (setEntry slot none s) (removedWith outcome slot cue s) := by
  unfold removedWith raiseCueDone
  exact (takeOut_playersOnly slot cue s).reportsOnly.trans (raiseEvent_reportsOnly ..)

/-- The events of a removal are those of its CUE_DONE. -/
theorem removedWith_evr (outcome : FollowOutcome) (slot : Nat) (cue : CueNumber) (s : State) :
    (removedWith outcome slot cue s).evr
      = (raiseEvent .cueDone 0 (cueBytes (some cue) ++ bytesOf 1 outcome.detail) s).evr := by
  obtain ⟨p, t, hplayers⟩ := takeOut_playersOnly slot cue s
  unfold removedWith raiseCueDone
  rw [hplayers]
  exact raiseEvent_evr_congr (by rfl) (by rfl) ..

theorem removedWith_seq_of_single {outcome : FollowOutcome} {slot : Nat} {cue : CueNumber} {e : Entry} {s : State}
    (h : s.seq.entries = [(slot, e)]) : (removedWith outcome slot cue s).seq = { s.seq with entries := [] } := by
  rw [(removedWith_reportsOnly outcome slot cue s).seq, setEntry_seq, h, sparsePut_single_none]

/-- The only entry, over, is removed with its follow outcome (R64). -/
theorem sweep_of_single_over {slot : Nat} {e : Entry} {outcome : FollowOutcome} {s : State} (h1 : 1 ≤ slot)
    (h2 : slot ≤ 16) (hs : s.seq.entries = [(slot, e)]) (h : e.over = true) (houtcome : e.outcome = outcome) :
    sweep s = removedWith outcome slot e.cue.number s := by
  subst houtcome
  refine forEach_at (P := (· = s)) (Q := (· = removedWith e.outcome slot e.cue.number s)) (m := slot) ?_ ?_ ?_ h1
    (by omega) rfl
  · rintro n t hn rfl
    exact sweepEntry_of_absent (by rw [hs]; exact if_neg (Ne.symm hn))
  · rintro t rfl
    exact sweepEntry_of_over (by rw [hs, sparseFind_single]) h
  · rintro n t - rfl
    exact sweepEntry_of_absent (by rw [removedWith_seq_of_single hs]; rfl)

/-- The only entry removed and the step settled: the table is empty, and CUE_DONE is raised (R64). -/
theorem settle_removedWith {outcome : FollowOutcome} {slot : Nat} {cue : CueNumber} {e : Entry} {s : State}
    (h : s.seq.entries = [(slot, e)]) :
    (settle (removedWith outcome slot cue s)).seq = { s.seq with entries := [] }
      ∧ (settle (removedWith outcome slot cue s)).evr
        = (raiseEvent .cueDone 0 (cueBytes (some cue) ++ bytesOf 1 outcome.detail) s).evr
      ∧ ∃ q, ReportsOnly (s.withSeq q) (settle (removedWith outcome slot cue s)) := by
  have hseq := removedWith_seq_of_single (outcome := outcome) (cue := cue) h
  have hquiet : QuietSeq (removedWith outcome slot cue s) := quietSeq_of_empty (by rw [hseq])
  refine ⟨?_, ?_, _, (removedWith_reportsOnly outcome slot cue s).trans (settle_reportsOnly hquiet)⟩
  · rw [settle_of_quiet hquiet, State.withCmc_seq, hseq]
  · rw [settle_of_quiet hquiet, State.withCmc_evr, removedWith_evr]

/-! ### The expiry of a postwait (R63) -/

/-- No expiry follows where none is due, or an action fires first (R63). -/
theorem chase_of_none_due {fuel : Nat} {slot : Nat} {s : State}
    (h : ∀ e, sparseFind s.seq.entries slot = some e → e.postwaitDue = false ∨ e.nextDue ≠ none) :
    chase fuel (some slot) s = s := by
  cases fuel with
  | zero => rfl
  | succ fuel =>
    unfold chase
    dsimp only
    split
    · rfl
    · next e he =>
      rcases h e he with hdue | hnext
      · exact if_neg (by simp [hdue])
      · exact if_neg fun hall => hnext hall.2.1

/-- No expiry follows one that has created no entry. -/
theorem chase_none (fuel : Nat) (s : State) : chase fuel none s = s := by
  cases fuel <;> rfl

/-- A postwait that has run out expires, and the expiries that follow on it with it (R63). -/
theorem postwaitExpiry_of_due {slot : Nat} {e : Entry} {s : State} (he : sparseFind s.seq.entries slot = some e)
    (hdue : e.postwait = .running 0) (hnext : e.nextDue = none) (hhold : s.hsu.holdEffective = false) :
    postwaitExpiry slot s = chase (s.cst.cues.length + 1) (expire slot s).1 (sweep (expire slot s).2) := by
  have hall : e.postwaitDue = true ∧ e.nextDue = none ∧ holding s = false :=
    ⟨by simp [Entry.postwaitDue, hdue], hnext, hhold⟩
  rw [postwaitExpiry, chaseFuel, chase]
  dsimp only
  rw [he]
  dsimp only
  rw [if_pos hall]

/-- An entry that is not ACTIVE has no action due (R60). -/
theorem nextDue_of_not_active {e : Entry} (h : e.phase ≠ .active) : e.nextDue = none := if_neg h

/-- The expiry of a finished entry: the entry removed, the follow decided, CUE_DONE raised (R63, R64). -/
theorem expire_of_finished {slot : Nat} {e : Entry} {s : State} (he : sparseFind s.seq.entries slot = some e)
    (h : e.finished = true) :
    expire slot s = ((follow e.followTarget (takeOut slot e.cue.number s)).2.slot,
      raiseCueDone e.cue.number (follow e.followTarget (takeOut slot e.cue.number s)).1
        (follow e.followTarget (takeOut slot e.cue.number s)).2.state) := by
  unfold expire
  rw [he]
  exact if_pos h

/-- A follow target that is not the standby cue is dropped (R63). -/
theorem follow_of_other {target : Option CueNumber} {s : State} (h : target = none ∨ standbyNumber s ≠ target) :
    follow target s = (.dropped, ⟨.endOfList, none, s⟩) :=
  if_neg fun hagree => h.elim hagree.1 fun hne => hne hagree.2

/-- A follow target that is the standby cue issues an AUTO GO (R63). -/
theorem follow_of_standby {cue : CueNumber} {s : State} (h : standbyNumber s = some cue) :
    follow (some cue) s = ((decideGo .auto s).outcome.followed, decideGo .auto s) :=
  if_pos ⟨Option.some_ne_none _, h⟩

/-- What a removal leaves of standby: its cue. -/
theorem standbyNumber_takeOut (slot : Nat) (cue : CueNumber) (s : State) :
    standbyNumber (takeOut slot cue s) = standbyNumber s := by
  obtain ⟨p, t, hplayers⟩ := takeOut_playersOnly slot cue s
  rw [hplayers]
  rfl

/-! ### An accepted GO (R55) -/

/-- The follow target of a cue fired at an index: the number of the next eligible cue (R55, R59). -/
def targetAfter (index : Nat) (s : State) : Option CueNumber :=
  (nextEligible s index).bind fun k => (cueAt s k).map fun c => c.number

/-- All that an accepted GO writes before the players and the reporter take it: the entry, the GO record, the lockout and
standby (R51, R55). -/
def goTaken (origin : Origin) (slot index : Nat) (cue : Cue) (s : State) : State :=
  shiftStandby (nextEligible s index) (startLockout origin (appendGo cue.number origin
    (setEntry slot (some (Entry.initial cue origin (targetAfter index s))) s)))

theorem goTaken_entries (origin : Origin) (slot index : Nat) (cue : Cue) (s : State) :
    (goTaken origin slot index cue s).seq.entries
      = sparsePut s.seq.entries slot (some (Entry.initial cue origin (targetAfter index s))) := by
  unfold goTaken startLockout
  split <;> rfl

/-- Standby moves alike whatever the players, the clip memory and the events. -/
theorem ReportsOnly.shiftStandby {s u : State} (h : ReportsOnly s u) (new : Option Nat) :
    ReportsOnly (shiftStandby new s) (shiftStandby new u) := by
  obtain ⟨p, c, e, rfl⟩ := h
  exact ⟨p, c, e, rfl⟩

/-- The lockout starts alike whatever the players, the clip memory and the events. -/
theorem ReportsOnly.startLockout {s u : State} (h : ReportsOnly s u) (origin : Origin) :
    ReportsOnly (startLockout origin s) (startLockout origin u) := by
  obtain ⟨p, c, e, rfl⟩ := h
  unfold Machine.startLockout
  split <;> exact ⟨p, c, e, rfl⟩

/-- An accepted GO is taken alike whatever the players, the clip memory and the events. -/
theorem ReportsOnly.goTaken {s u : State} (h : ReportsOnly s u) (origin : Origin) (slot index : Nat) (cue : Cue) :
    ReportsOnly (goTaken origin slot index cue s) (goTaken origin slot index cue u) := by
  obtain ⟨p, c, e, rfl⟩ := h
  exact (ReportsOnly.startLockout ⟨p, c, e, rfl⟩ origin).shiftStandby _

/-- A created entry stands in the table and in the GO record, and CUE_FIRED is raised (R55). -/
theorem createEntry_reportsOnly (slot : Nat) (cue : Cue) (origin : Origin) (target : Option CueNumber) (s : State) :
    ReportsOnly (appendGo cue.number origin (setEntry slot (some (Entry.initial cue origin target)) s))
      (createEntry slot cue origin target s) := raiseEvent_reportsOnly ..

/-- A move of standby writes its index, and what the players make of it (R49). -/
theorem moveStandby_reportsOnly (new : Option Nat) (fired : Bool) (s : State) :
    ReportsOnly (shiftStandby new s) (moveStandby new fired s) :=
  (standbyChanged_playersOnly (standbyNumber s) fired (standbyNumber (shiftStandby new s)) (shiftStandby new s)).reportsOnly

/-- END_OF_LIST, raised or not, is an event at most (R53, R55). -/
theorem raiseEndOfList_reportsOnly (cue : CueNumber) (s : State) : ReportsOnly s (raiseEndOfList cue s) := by
  unfold raiseEndOfList
  split
  · exact raiseEvent_reportsOnly ..
  · exact .refl s

/-- The postwait of an entry just created does not run (R59, R63). -/
theorem postwaitDue_initial (cue : Cue) (origin : Origin) (target : Option CueNumber) :
    (Entry.initial cue origin target).postwaitDue = false := by
  unfold Entry.postwaitDue Entry.initial
  dsimp only
  split <;> rfl

/-- A prewait that has not run out does not end (R60). -/
theorem prewaitEnd_of_running {slot : Nat} {e : Entry} {s : State} (he : sparseFind s.seq.entries slot = some e)
    (h : 0 < e.prewait) : prewaitEnd slot s = s := by
  unfold prewaitEnd
  rw [he]
  have hne : e.prewait ≠ 0 := by omega
  exact if_neg (by simp [Entry.prewaitDue, hne])

/-- The prewait of a cue just fired does not end with the GO unless it is 0 (R55, R60). -/
theorem prewaitEnd_of_taken {origin : Origin} {slot index : Nat} {cue : Cue} {s u : State} (h : 0 < cue.prewait)
    (hu : ReportsOnly (goTaken origin slot index cue s) u) : prewaitEnd slot u = u :=
  prewaitEnd_of_running (e := Entry.initial cue origin (targetAfter index s))
    (by rw [hu.seq, goTaken_entries]; exact sparseFind_put_some ..) h

/-- A GO accepted on a cue with a prewait writes what `goTaken` does, the players and the reporter following (R55). -/
theorem acceptGo_reportsOnly {cue : Cue} (h : 0 < cue.prewait) (origin : Origin) (slot index : Nat) (s : State) :
    ReportsOnly (goTaken origin slot index cue s) (acceptGo origin slot index cue s).state := by
  have hentered := createEntry_reportsOnly slot cue origin (targetAfter index s) s
  have htaken := (((hentered.startLockout origin).shiftStandby (nextEligible s index)).trans
    (moveStandby_reportsOnly _ true _)).trans (raiseEndOfList_reportsOnly cue.number _)
  have hstate : (acceptGo origin slot index cue s).state = _ := prewaitEnd_of_taken h htaken
  rw [hstate]
  exact htaken

/-- An AUTO GO on an uncut standby cue, no entry running, is accepted into slot 1 whatever the lockout (R50, R51, R55). -/
theorem decideGo_auto_accepted {index : Nat} {cue : Cue} {s : State} (hhold : s.hsu.holdEffective = false)
    (hstandby : s.seq.standby = some index) (hcue : cueAt s index = some cue) (hcut : cue.cut = false)
    (hempty : s.seq.entries = []) : decideGo .auto s = acceptGo .auto 1 index cue s := by
  have hearly : endEarlyOf cue.number s = s := by
    unfold endEarlyOf entryRunning
    rw [hempty]
    rfl
  have hfree : freeEntry s = some 1 := by
    unfold freeEntry
    rw [hempty]
    rfl
  unfold decideGo
  rw [if_neg (by simp [holding, hhold]), if_neg (by simp [Origin.operator]), hstandby]
  dsimp only
  rw [hcue]
  dsimp only
  rw [if_neg (by simp [hcut]), hearly, hfree]

/-! ### The end of a prewait (R60) -/

/-- Where no action of an entry is due none fires. -/
theorem fireDue_of_none_due {slot fuel : Nat} {e : Entry} {s : State} (he : sparseFind s.seq.entries slot = some e)
    (h : e.nextDue = none) : fireDue slot fuel s = s := by
  cases fuel with
  | zero => rfl
  | succ fuel =>
    unfold fireDue
    rw [he, Option.bind_some, h]

/-- A prewait that has run out ends, hold not effective, and no action of offset 0 fires when there is none (R60). -/
theorem prewaitEndStep_of_due {slot : Nat} {e : Entry} {s : State} (he : sparseFind s.seq.entries slot = some e)
    (hphase : e.phase = .prewait) (hprewait : e.prewait = 0) (hhold : s.hsu.holdEffective = false)
    (hnext : e.activated.nextDue = none) :
    prewaitEndStep slot s = postwaitExpiry slot (sweep (setEntry slot (some e.activated) s)) := by
  have hdue : e.prewaitDue = true ∧ holding s = false := ⟨by simp [Entry.prewaitDue, hphase, hprewait], hhold⟩
  have hend : prewaitEnd slot s = setEntry slot (some e.activated) s := by
    unfold prewaitEnd activate
    rw [he]
    exact (if_pos hdue).trans (fireDue_of_none_due (sparseFind_put_some ..) hnext)
  unfold prewaitEndStep
  rw [he, ← hend]
  exact if_pos hdue

/-- An entry whose cue does not CONTINUE keeps its postwait when its prewait ends (R63). -/
theorem activated_of_not_continue {e : Entry} (h : e.cue.follow ≠ .continue_) :
    e.activated
      = { e with phase := if e.states.contains .unfired then .active else .done, elapsed := 0 } := by
  unfold Entry.activated postwaitAtActive
  rw [if_neg h]
  exact phased_of_active rfl

/-! ### The steps of the only entry -/

section
variable {slot : Nat} {e : Entry} {s : State} (h1 : 1 ≤ slot) (h2 : slot ≤ 16) (hs : s.seq.entries = [(slot, e)])
include hs

/-- The only entry written anew is the only entry. -/
theorem setEntry_entries_of_single (x : Entry) : (setEntry slot (some x) s).seq.entries = [(slot, x)] := by
  rw [setEntry_seq, hs, sparsePut_single_some]

/-- The prewait of the only entry ends with all its actions later: the entry is ACTIVE, and nothing else happens (R60). -/
theorem settle_prewaitEndStep_later (hphase : e.phase = .prewait) (hprewait : e.prewait = 0)
    (hhold : s.hsu.holdEffective = false) (hfollow : e.cue.follow = .none) (hpostwait : e.postwait = .absent)
    (hunfired : .unfired ∈ e.states) (hlater : ∀ a ∈ e.cue.actions, 0 < a.offset) :
    settle (prewaitEndStep slot s)
      = (setEntry slot (some { e with phase := .active, elapsed := 0 }) s).withCmc
          (arbitrate (setEntry slot (some { e with phase := .active, elapsed := 0 }) s)).cmc := by
  have hactivated : e.activated = { e with phase := .active, elapsed := 0 } := by
    rw [activated_of_not_continue (by simp [hfollow]), if_pos (by simpa using hunfired)]
  have hnext : e.activated.nextDue = none := by
    have hnone (k : Nat) (a : Action) : ¬DueAt 0 e.cue.actions e.states k a := fun ⟨ha, _, hdue⟩ => by
      have := hlater a (List.mem_of_getElem? ha)
      omega
    rw [hactivated, Entry.nextDue, if_pos rfl, dueAction_eq_none hnone, Option.map_none]
  rw [prewaitEndStep_of_due (by rw [hs, sparseFind_single]) hphase hprewait hhold hnext, hactivated]
  have hentries := setEntry_entries_of_single hs { e with phase := .active, elapsed := 0 }
  generalize setEntry slot (some { e with phase := .active, elapsed := 0 }) s = u at hentries
  have hquiet : QuietSeq u := quietSeq_of_single hentries (fun h => nomatch h)
  have hexpiry : postwaitExpiry slot u = u := chase_of_none_due fun x hx => by
    rw [hentries, sparseFind_single] at hx
    cases hx
    exact .inl (by simp [Entry.postwaitDue, hpostwait])
  rw [sweep_of_quiet hquiet, hexpiry, settle_of_quiet hquiet]

/-- A removal that empties the table has nothing following on it. -/
theorem chase_removedWith {outcome : FollowOutcome} {cue : CueNumber} (fuel : Nat) :
    chase fuel (some slot) (removedWith outcome slot cue s) = removedWith outcome slot cue s :=
  chase_of_none_due fun x hx => by
    rw [removedWith_seq_of_single hs] at hx
    cases hx

include h1 h2

/-- The prewait of the only entry ends on a marker cue: the entry is removed (R60, R64). -/
theorem prewaitEndStep_marker (hphase : e.phase = .prewait) (hprewait : e.prewait = 0)
    (hhold : s.hsu.holdEffective = false) (hfollow : e.cue.follow = .none) (hpostwait : e.postwait = .absent)
    (hstates : e.states = []) (houtcome : e.outcome = .none) :
    prewaitEndStep slot s = removedWith .none slot e.cue.number
      (setEntry slot (some { e with phase := .done, elapsed := 0 }) s) := by
  have hactivated : e.activated = { e with phase := .done, elapsed := 0 } := by
    rw [activated_of_not_continue (by simp [hfollow]), if_neg (by simp [hstates])]
  have hnext : e.activated.nextDue = none := by
    rw [hactivated]
    exact nextDue_of_not_active fun h => nomatch h
  have hover : ({ e with phase := .done, elapsed := 0 } : Entry).over = true := by
    simp [Entry.over, Entry.finished, Entry.outstanding, hstates, hpostwait]
  have hentries := setEntry_entries_of_single hs { e with phase := .done, elapsed := 0 }
  rw [prewaitEndStep_of_due (by rw [hs, sparseFind_single]) hphase hprewait hhold hnext, hactivated,
    sweep_of_single_over h1 h2 hentries hover houtcome]
  exact chase_removedWith hentries _

end

section
variable {slot : Nat} {e : Entry} {s : State} (hs : s.seq.entries = [(slot, e)]) (hphase : e.phase = .done)
  (houtstanding : e.outstanding = 0) (hpostwait : e.postwait = .running 0) (hhold : s.hsu.holdEffective = false)
include hs hphase houtstanding hpostwait hhold

/-- The only entry's postwait expires with another standby cue than its follow target: the entry is dropped (R63). -/
theorem postwaitExpiry_dropped (h : e.followTarget = none ∨ standbyNumber s ≠ e.followTarget) :
    postwaitExpiry slot s = removedWith .dropped slot e.cue.number s := by
  have he : sparseFind s.seq.entries slot = some e := by rw [hs, sparseFind_single]
  have hexpire : expire slot s = (none, removedWith .dropped slot e.cue.number s) := by
    rw [expire_of_finished he (by simp [Entry.finished, hphase, houtstanding]),
      follow_of_other (by rw [standbyNumber_takeOut]; exact h), removedWith]
  have hquiet : QuietSeq (removedWith .dropped slot e.cue.number s) :=
    quietSeq_of_empty (by rw [removedWith_seq_of_single hs])
  rw [postwaitExpiry_of_due he hpostwait (nextDue_of_not_active (by simp [hphase])) hhold, hexpire, chase_none,
    sweep_of_quiet hquiet]

/-- The only entry's postwait expires with its follow target standby, not cut and with a prewait: what the AUTO GO writes,
the players and the reporter following (R55, R63). -/
theorem settle_postwaitExpiry_auto {index : Nat} {cue : Cue} (hstandby : s.seq.standby = some index)
    (hcue : cueAt s index = some cue) (htarget : e.followTarget = some cue.number) (hcut : cue.cut = false)
    (hprewait : 0 < cue.prewait) :
    ReportsOnly (goTaken .auto 1 index cue (setEntry slot none s)) (settle (postwaitExpiry slot s)) := by
  have he : sparseFind s.seq.entries slot = some e := by rw [hs, sparseFind_single]
  have hremoved := takeOut_playersOnly slot e.cue.number s
  have hagreed : standbyNumber (takeOut slot e.cue.number s) = some cue.number := by
    rw [standbyNumber_takeOut]
    exact standbyNumber_eq_some_iff.mpr ⟨index, cue, hstandby, hcue, rfl⟩
  have hgo : decideGo .auto (takeOut slot e.cue.number s) = acceptGo .auto 1 index cue (takeOut slot e.cue.number s) := by
    obtain ⟨p, t, hu⟩ := hremoved
    rw [hu]
    exact decideGo_auto_accepted hhold hstandby hcue hcut (by
      rw [State.withCmc_seq, State.withPly_seq, setEntry_seq, hs, sparsePut_single_none])
  have hexpire : expire slot s = (some 1,
      raiseCueDone e.cue.number .fired (acceptGo .auto 1 index cue (takeOut slot e.cue.number s)).state) := by
    rw [expire_of_finished he (by simp [Entry.finished, hphase, houtstanding]), htarget, follow_of_standby hagreed, hgo]
    rfl
  rw [postwaitExpiry_of_due he hpostwait (nextDue_of_not_active (by simp [hphase])) hhold, hexpire]
  have hfired : ReportsOnly (goTaken .auto 1 index cue (setEntry slot none s))
      (raiseCueDone e.cue.number .fired (acceptGo .auto 1 index cue (takeOut slot e.cue.number s)).state) :=
    ((hremoved.reportsOnly.goTaken ..).trans (acceptGo_reportsOnly hprewait ..)).trans
      (raiseEvent_reportsOnly ..)
  generalize raiseCueDone e.cue.number .fired (acceptGo .auto 1 index cue (takeOut slot e.cue.number s)).state = v
    at hfired
  have hentries : v.seq.entries = [(1, Entry.initial cue .auto (targetAfter index s))] := by
    rw [hfired.seq, goTaken_entries, setEntry_seq, hs, sparsePut_single_none]
    rfl
  have hquiet : QuietSeq v := quietSeq_of_single hentries (fun h => nomatch h)
  have hchase : chase (s.cst.cues.length + 1) (some 1) v = v := chase_of_none_due fun x hx => by
    rw [hentries, sparseFind_single] at hx
    cases hx
    exact .inl (postwaitDue_initial ..)
  dsimp only
  rw [sweep_of_quiet hquiet, hchase]
  exact hfired.trans (settle_reportsOnly hquiet)

end

end Sys2Proof.Machine

open Sys2Proof Sys2Proof.Machine

/-- Settles O28: each clause reads off the step of the only entry (`settle_prewaitEndStep_later`, `prewaitEndStep_marker`,
`postwaitExpiry_dropped`, `settle_postwaitExpiry_auto`); an entry with an action due has nothing to chase
(`chase_of_none_due`). -/
theorem prewaitsEndAndPostwaitsExpire : Obligations.PrewaitsEndAndPostwaitsExpire := by
  unfold Obligations.PrewaitsEndAndPostwaitsExpire
  refine ⟨fun slot e s h1 h2 hs hphase hprewait hhold hfollow hpostwait =>
      ⟨fun hunfired hlater => ⟨_, rfl, ?_⟩, fun _ hstates houtcome => ⟨_, rfl, ?_⟩⟩,
    fun slot e s h1 h2 hs hphase houtstanding hpostwait hhold =>
      ⟨fun hother => ⟨_, rfl, ?_⟩, fun index cue hstandby hcue htarget hcut hprewait => ⟨_, rfl, ?_⟩⟩,
    fun slot e s he hnext => ?_⟩
  · rw [settle_prewaitEndStep_later hs hphase hprewait hhold hfollow hpostwait hunfired hlater,
      ← setEntry_entries_of_single hs]
    exact ⟨rfl, rfl, rfl, rfl, rfl, rfl, rfl⟩
  · have hentries := setEntry_entries_of_single hs { e with phase := .done, elapsed := 0 }
    rw [prewaitEndStep_marker h1 h2 hs hphase hprewait hhold hfollow hpostwait hstates houtcome]
    obtain ⟨hseq, hevr, q, hrest⟩ := settle_removedWith (outcome := .none) (cue := e.cue.number) hentries
    exact ⟨hseq, hevr.trans (raiseEvent_evr_congr (by rfl) (by rfl) ..), hrest.elsewhere⟩
  · rw [postwaitExpiry_dropped hs hphase houtstanding hpostwait hhold hother]
    obtain ⟨hseq, hevr, q, hrest⟩ := settle_removedWith (outcome := .dropped) (cue := e.cue.number) hs
    exact ⟨hseq, hevr, hrest.elsewhere⟩
  · obtain ⟨p, c, f, ht⟩ :=
      settle_postwaitExpiry_auto hs hphase houtstanding hpostwait hhold hstandby hcue htarget hcut hprewait
    rw [ht]
    refine ⟨?_, ⟨_, List.getLast?_concat, rfl, rfl, rfl⟩, rfl, rfl, rfl⟩
    show { s.seq with
        standby := nextEligible s index
        entries := sparsePut (sparsePut s.seq.entries slot none) 1 (some (Entry.initial cue .auto (targetAfter index s))) }
      = _
    rw [hs, sparsePut_single_none]
    rfl
  · have hstays : postwaitExpiry slot s = s := chase_of_none_due fun x hx => by
      cases he.symm.trans hx
      exact .inr hnext
    show Host.Outcome.next (settle (postwaitExpiry slot s)) = _
    rw [hstays]

end

section
/-!
SUPPORT. Records rewritten one after the other at a millisecond boundary: what the rewriting of the zones, of the players and of
the governors leaves (R81, R120, R130, R131).
-/

namespace Sys2Proof.Machine

/-! ### The zones (R130, R131) -/

/-- RPU with nothing but the zone table written, its indices still rising. -/
def ZonesRewritten (s u : State) : Prop :=
  ∃ x, u = s.withRpu { s.rpu with zones := x } ∧ (sparseRising none s.rpu.zones = true → sparseRising none x = true)

section
variable {f : Nat → State → State} {g : Zone → Zone}
  (hf : ∀ n s, (f n s = s ∧ g (zoneOf s n) = zoneOf s n) ∨ f n s = setZoneRecord n (g (zoneOf s n)) s)
include hf

/-- A step that rewrites one zone's record, or leaves it, done for each index writes nothing but zones. -/
theorem forEach_zonesRewritten (first count : Nat) (s : State) : ZonesRewritten s (forEach first count f s) := by
  refine forEach_keeps (P := ZonesRewritten s) (fun n u hu => ?_) first count ⟨s.rpu.zones, rfl, id⟩
  obtain ⟨x, rfl, hx⟩ := hu
  rcases hf n (s.withRpu { s.rpu with zones := x }) with ⟨h, -⟩ | h <;> rw [h]
  · exact ⟨x, rfl, hx⟩
  · exact ⟨_, rfl, fun hr => sparseRising_write _ (hx hr) n _⟩

/-- Such a step rewrites each zone of its range from the record the zone has at first. -/
theorem zoneOf_forEach {s : State} (h : sparseRising none s.rpu.zones = true) {first count z : Nat} (hz : first ≤ z)
    (hz' : z < first + count) : zoneOf (forEach first count f s) z = g (zoneOf s z) := by
  have hother (n : Nat) (u : State) (hn : n ≠ z) : zoneOf (f n u) z = zoneOf u z := by
    rcases hf n u with ⟨hu, -⟩ | hu <;> rw [hu]
    exact zoneOf_set_other hn.symm _ u
  refine forEach_at (P := fun u => sparseRising none u.rpu.zones = true ∧ zoneOf u z = zoneOf s z)
    (Q := fun u => zoneOf u z = g (zoneOf s z)) (fun n u hn hu => ?_) (fun u hu => ?_) (fun n u hn hu => ?_) hz hz' ⟨h, rfl⟩
  · obtain ⟨x, hx, hrising⟩ := forEach_zonesRewritten hf n 1 u
    exact ⟨(congrArg (fun v => sparseRising none v.rpu.zones) hx).trans (hrising hu.1), (hother n u hn).trans hu.2⟩
  · rw [← hu.2]
    rcases hf z u with ⟨hstays, hsame⟩ | hwritten
    · rw [hstays, hsame]
    · rw [hwritten]
      exact zoneOf_set hu.1 z _
  · exact (hother n u hn).trans hu

end

/-- A zone's record after a boundary's count: its duck has advanced (R131). -/
def Zone.counted (z : Zone) : Zone := { z with duck := z.duck.advance }

/-- A zone's record once its codes are formed: both of an enabled zone, none of a disabled one (R130). -/
def Zone.coded (z : Zone) : Zone :=
  if z.enabled then
    { z with
      gr := z.gr.form (relayCode z.relay z.duck.value)
      gp := z.gp.form (if z.paged then levelCode z.page else 0) }
  else z

/-- One zone's codes formed rewrite its record. -/
theorem formZoneCode_rewrites (n : Nat) (s : State) :
    (formZoneCode n s = s ∧ (zoneOf s n).coded = zoneOf s n)
      ∨ formZoneCode n s = setZoneRecord n (zoneOf s n).coded s := by
  unfold formZoneCode Zone.coded
  dsimp only
  split
  · exact .inr rfl
  · exact .inl ⟨rfl, rfl⟩

/-- What a boundary counts in RPU: the ducks of the zones, the attack of the active page and the wait of the call voice (R131,
R139, R144). -/
structure RelayCounted (r t : Rpu) : Prop where
  rest : t = { r with
    zones := t.zones
    active := r.active.map fun a => { a with attack := a.attack.map fun ms => ms - 1 }
    voice := { r.voice with
      waited := if (r.active.any fun a => a.attack == none) = true ∧ r.voice.state = .loading then
        r.voice.waited + 1 else r.voice.waited } }
  rising : sparseRising none r.zones = true → sparseRising none t.zones = true
  zones : sparseRising none r.zones = true → ∀ z, 1 ≤ z → z ≤ 24 →
    sparseRead (Zone.initial z) t.zones z = (sparseRead (Zone.initial z) r.zones z).counted

/-- The relay's count writes nothing but RPU. -/
theorem relayAdvance_counted (s : State) : ∃ r, relayAdvance s = s.withRpu r ∧ RelayCounted s.rpu r := by
  have hf (n : Nat) (u : State) : (advanceZone n u = u ∧ (zoneOf u n).counted = zoneOf u n)
      ∨ advanceZone n u = setZoneRecord n (zoneOf u n).counted u := .inr rfl
  have hzone {z : Nat} (h : sparseRising none s.rpu.zones = true) (h1 : 1 ≤ z) (h2 : z ≤ 24) :=
    zoneOf_forEach hf h (count := 24) h1 (by omega)
  obtain ⟨x, hx, hrising⟩ := forEach_zonesRewritten hf 1 24 s
  rw [hx] at hzone
  have hrest : relayAdvance s = s.withRpu { s.rpu with
      zones := x
      active := s.rpu.active.map fun a => { a with attack := a.attack.map fun ms => ms - 1 }
      voice := { s.rpu.voice with
        waited := if (s.rpu.active.any fun a => a.attack == none) = true ∧ s.rpu.voice.state = .loading then
          s.rpu.voice.waited + 1 else s.rpu.voice.waited } } := by
    unfold relayAdvance
    rw [hx]
    unfold countAttack countVoiceWait
    cases hactive : s.rpu.active with
    | none => simp [hactive, State.withRpu]
    | some a =>
      by_cases hwaits : a.attack = none ∧ s.rpu.voice.state = VoiceState.loading <;>
        simp [hactive, hwaits, setVoice, setActive, State.withRpu]
  exact ⟨_, hrest, rfl, hrising, fun h z h1 h2 => hzone h h1 h2⟩

/-- RPU with the codes of its zones and of TALK formed (R130, R132). -/
structure RelayCoded (r t : Rpu) : Prop where
  rest : t = { r with zones := t.zones, talk := r.talk.form (levelCode r.settings.talkLevel) }
  zones : sparseRising none r.zones = true → ∀ z, 1 ≤ z → z ≤ 24 →
    sparseRead (Zone.initial z) t.zones z = (sparseRead (Zone.initial z) r.zones z).coded

/-- Forming the relay's codes writes nothing but RPU. -/
theorem formZoneCodes_coded (s : State) : ∃ r, formZoneCodes s = s.withRpu r ∧ RelayCoded s.rpu r := by
  have hzone {z : Nat} (h : sparseRising none s.rpu.zones = true) (h1 : 1 ≤ z) (h2 : z ≤ 24) :=
    zoneOf_forEach formZoneCode_rewrites h (count := 24) h1 (by omega)
  obtain ⟨x, hx, -⟩ := forEach_zonesRewritten formZoneCode_rewrites 1 24 s
  unfold formZoneCodes
  rw [hx] at hzone ⊢
  exact ⟨_, rfl, rfl, fun h z h1 h2 => hzone h h1 h2⟩

/-! ### The players (R81) -/

/-- PLY with the glides of its players' codes as they were, its indices still rising. -/
def CodesKept (p q : Ply) : Prop :=
  sparseRising none p.players = true → sparseRising none q.players = true
    ∧ ∀ n, (sparseRead ({} : Player) q.players n).code = (sparseRead ({} : Player) p.players n).code

theorem CodesKept.refl (p : Ply) : CodesKept p p := fun h => ⟨h, fun _ => rfl⟩

theorem CodesKept.trans {p q r : Ply} (h : CodesKept p q) (h' : CodesKept q r) : CodesKept p r := fun hp =>
  ⟨(h' (h hp).1).1, fun n => ((h' (h hp).1).2 n).trans ((h hp).2 n)⟩

/-- A pause, a resume and a boundary's counts leave the glide of a player's code (R81, R86). -/
theorem followHold_code (held : Bool) (p : Player) : (p.followHold held).code = p.code := by
  unfold Player.followHold
  cases held <;> cases p.state <;> rfl

/-- One player's work at a boundary leaves the glide of its code. -/
theorem playerBoundary_codesKept (n : Nat) (s : State) : CodesKept s.ply (playerBoundary n s).ply := fun h => by
  refine ⟨sparseRising_write _ h n _, fun m => ?_⟩
  by_cases hm : m = n
  · subst hm
    refine (congrArg Player.code (playerOf_set h m _)).trans ?_
    split <;> exact followHold_code ..
  · exact congrArg Player.code (playerOf_set_other hm _ s)

/-- The players' work at a boundary that leaves due events to their rows writes nothing but PLY. -/
theorem playersBoundary_split (s : State) : ∃ p, playersBoundary .split s = s.withPly p ∧ CodesKept s.ply p :=
  forEach_keeps (f := playerBoundary) (P := fun u => ∃ p, u = s.withPly p ∧ CodesKept s.ply p)
    (fun n u hu => by
      obtain ⟨p, rfl, hp⟩ := hu
      exact ⟨_, rfl, hp.trans (playerBoundary_codesKept n (s.withPly p))⟩)
    1 8 ⟨s.ply, rfl, .refl _⟩

/-- A player's record once its code is formed from its envelope (R81). -/
def Player.coded (p : Player) : Player := { p with code := p.code.form (levelCode p.env.level) }

/-- PLY with the code of each player formed (R81). -/
def EnvelopesCoded (p q : Ply) : Prop :=
  sparseRising none p.players = true → ∀ n, 1 ≤ n → n ≤ 8 →
    sparseRead ({} : Player) q.players n = (sparseRead ({} : Player) p.players n).coded

/-- Forming the players' codes writes nothing but PLY. -/
theorem formEnvelopeCodes_coded (s : State) : ∃ p, formEnvelopeCodes s = s.withPly p ∧ EnvelopesCoded s.ply p := by
  have hframe : ∃ p, formEnvelopeCodes s = s.withPly p :=
    forEach_keeps (f := formEnvelopeCode) (P := fun u => ∃ p, u = s.withPly p)
      (fun n u hu => by obtain ⟨p, rfl⟩ := hu; exact ⟨_, rfl⟩) 1 8 ⟨s.ply, rfl⟩
  have hcoded (h : sparseRising none s.ply.players = true) (n : Nat) (h1 : 1 ≤ n) (h2 : n ≤ 8) :
      playerOf (formEnvelopeCodes s) n = (playerOf s n).coded := by
    refine forEach_at (P := fun u => sparseRising none u.ply.players = true ∧ playerOf u n = playerOf s n)
      (Q := fun u => playerOf u n = (playerOf s n).coded) (f := formEnvelopeCode)
      (fun m u hm hu => ?_) (fun u hu => ?_) (fun m u hm hu => ?_) h1 (show n < 1 + 8 by omega) ⟨h, rfl⟩
    · exact ⟨sparseRising_write _ hu.1 m _, (playerOf_set_other hm.symm _ u).trans hu.2⟩
    · rw [← hu.2]
      exact playerOf_set hu.1 n _
    · exact (playerOf_set_other hm.symm _ u).trans hu
  obtain ⟨p, hp⟩ := hframe
  rw [hp] at hcoded
  exact ⟨p, hp, hcoded⟩

/-! ### The governors (R120) -/

/-- The governors' freezes write nothing but the governors' records. -/
theorem refreshAllFreezes_frame (s : State) :
    ∃ g, refreshAllFreezes s = s.withFbg { s.fbg with governors := g } :=
  forEach_keeps (f := refreshFreeze) (P := fun u => ∃ g, u = s.withFbg { s.fbg with governors := g })
    (fun n u hu => by obtain ⟨g, rfl⟩ := hu; exact ⟨_, rfl⟩) 1 12 ⟨s.fbg.governors, rfl⟩

end Sys2Proof.Machine
end

section
/-!
SUPPORT. The boundary at which HSU publishes: what show stop's beginning and end, and the STOP page with them, leave of the
other blocks and of the zones (R138, R140, R141, R143, R153 to R155).
-/

namespace Sys2Proof.Machine

/-- A zone's record but for its duck and its two flags, which are all that pages write of it (R131, R138). -/
def OnAirOnly (z y : Zone) : Prop := ∃ d i p, y = { z with duck := d, inPage := i, paged := p }

theorem OnAirOnly.refl (z : Zone) : OnAirOnly z z := ⟨_, _, _, rfl⟩

theorem OnAirOnly.trans {x y z : Zone} (h : OnAirOnly x y) (h' : OnAirOnly y z) : OnAirOnly x z := by
  obtain ⟨_, _, _, rfl⟩ := h
  obtain ⟨_, _, _, rfl⟩ := h'
  exact ⟨_, _, _, rfl⟩

/-- What pages leave of RPU: the settings, the talk code, and the zones but for what is on air. -/
structure RelayKept (r t : Rpu) : Prop where
  settings : t.settings = r.settings
  talk : t.talk = r.talk
  rising : sparseRising none r.zones = true → sparseRising none t.zones = true
  zones : sparseRising none r.zones = true → ∀ z,
    OnAirOnly (sparseRead (Zone.initial z) r.zones z) (sparseRead (Zone.initial z) t.zones z)

theorem RelayKept.refl (r : Rpu) : RelayKept r r := ⟨rfl, rfl, id, fun _ _ => .refl _⟩

theorem RelayKept.trans {r t v : Rpu} (h : RelayKept r t) (h' : RelayKept t v) : RelayKept r v :=
  ⟨h'.settings.trans h.settings, h'.talk.trans h.talk, h'.rising ∘ h.rising,
    fun hr z => (h.zones hr z).trans (h'.zones (h.rising hr) z)⟩

/-- What show stop and its page write: HSU, EVR, the memory controller, and RPU as far as pages do. -/
def StopActs (s u : State) : Prop :=
  ∃ h e c r, u = (((s.withHsu h).withEvr e).withCmc c).withRpu r ∧ RelayKept s.rpu r

theorem StopActs.refl (s : State) : StopActs s s := ⟨_, _, _, _, rfl, .refl _⟩

theorem StopActs.trans {s t u : State} (h : StopActs s t) (h' : StopActs t u) : StopActs s u := by
  obtain ⟨_, _, _, _, rfl, hr⟩ := h
  obtain ⟨g, e, c, r, rfl, hr'⟩ := h'
  exact ⟨g, e, c, r, rfl, hr.trans hr'⟩

/-! ### The writers -/

theorem withHsu_stopActs (h : Hsu) (s : State) : StopActs s (s.withHsu h) :=
  ⟨h, s.evr, s.cmc, s.rpu, rfl, .refl _⟩

theorem withCmc_stopActs (c : Cmc) (s : State) : StopActs s (s.withCmc c) :=
  ⟨s.hsu, s.evr, c, s.rpu, rfl, .refl _⟩

theorem raiseEvent_stopActs (kind : EventKind) (source : Nat) (detail : List Byte) (s : State) :
    StopActs s (raiseEvent kind source detail s) := by
  rw [raiseEvent_frame]
  exact ⟨s.hsu, (raiseEvent kind source detail s).evr, s.cmc, s.rpu, rfl, .refl _⟩

theorem withRpu_stopActs {r : Rpu} {s : State} (hsettings : r.settings = s.rpu.settings) (htalk : r.talk = s.rpu.talk)
    (hzones : r.zones = s.rpu.zones) : StopActs s (s.withRpu r) :=
  ⟨s.hsu, s.evr, s.cmc, r, rfl, hsettings, htalk, fun h => hzones ▸ h, fun _ _ => hzones ▸ .refl _⟩

theorem setQueue_stopActs (q : List Page) (s : State) : StopActs s (setQueue q s) := withRpu_stopActs rfl rfl rfl

theorem setActive_stopActs (a : Option ActivePage) (s : State) : StopActs s (setActive a s) :=
  withRpu_stopActs rfl rfl rfl

theorem numbered_stopActs (p : Page) (s : State) : StopActs s (numbered p s).2 := withRpu_stopActs rfl rfl rfl

theorem discardTransfer_stopActs (client : Client) (s : State) : StopActs s (discardTransfer client s) := by
  rw [discardTransfer_frame]
  exact withCmc_stopActs _ s

theorem idleVoice_stopActs (s : State) : StopActs s (idleVoice s) :=
  (discardTransfer_stopActs .voice s).trans (withRpu_stopActs rfl rfl rfl)

theorem loadVoice_stopActs (page clip : Nat) (e : DirEntry) (s : State) : StopActs s (loadVoice page clip e s) :=
  (discardTransfer_stopActs .voice s).trans (withRpu_stopActs rfl rfl rfl)

/-- A zone's record written with nothing new but what is on air. -/
theorem setZoneRecord_stopActs {n : Nat} {z : Zone} {s : State} (h : OnAirOnly (zoneOf s n) z) :
    StopActs s (setZoneRecord n z s) := by
  refine ⟨s.hsu, s.evr, s.cmc, _, rfl, rfl, rfl, fun hr => sparseRising_write _ hr n z, fun hr m => ?_⟩
  show OnAirOnly (zoneOf s m) (zoneOf (setZoneRecord n z s) m)
  by_cases hm : m = n
  · subst hm
    rw [zoneOf_set hr]
    exact h
  · rw [zoneOf_set_other hm]
    exact .refl _

theorem eachZone_stopActs {f : Nat → State → State} (hf : ∀ n s, StopActs s (f n s)) (zones : List Nat) (s : State) :
    StopActs s (eachZone f zones s) := by
  induction zones generalizing s with
  | nil => exact .refl s
  | cons n rest ih => exact (hf n s).trans (ih _)

theorem joins_stopActs (routed : Bool) (zones : List Nat) (s : State) : StopActs s (eachZone (zoneJoins routed) zones s) :=
  eachZone_stopActs (fun _ _ => setZoneRecord_stopActs ⟨_, _, _, rfl⟩) zones s

theorem leaves_stopActs (zones : List Nat) (s : State) : StopActs s (eachZone zoneLeaves zones s) :=
  eachZone_stopActs (fun _ _ => setZoneRecord_stopActs ⟨_, _, _, rfl⟩) zones s

theorem handedOver_stopActs (zones : List Nat) (s : State) : StopActs s (eachZone zoneHandedOver zones s) :=
  eachZone_stopActs (fun _ _ => setZoneRecord_stopActs ⟨_, _, _, rfl⟩) zones s

/-! ### The pages (R137 to R141) -/

theorem routePage_stopActs (p : Page) (zones : List Nat) (s : State) : StopActs s (routePage p zones s) := by
  have hstarted (routed : Bool) (a : Option ActivePage) :=
    (setActive_stopActs a s).trans (joins_stopActs routed zones (setActive a s))
  unfold routePage
  split
  · exact hstarted ..
  · dsimp only
    split
    · exact hstarted ..
    · exact (hstarted ..).trans (loadVoice_stopActs ..)

theorem startPage_stopActs (p : Page) (s : State) : StopActs s (startPage p s).2 := by
  unfold startPage
  dsimp only
  split
  · exact raiseEvent_stopActs ..
  · split
    · exact raiseEvent_stopActs ..
    · exact routePage_stopActs ..

theorem startFrom_stopActs (queue : List Page) (s : State) : StopActs s (startFrom queue s) := by
  induction queue generalizing s with
  | nil => exact (setActive_stopActs none s).trans (setQueue_stopActs [] _)
  | cons p rest ih =>
    have hstart : StopActs s (startPage p (setQueue rest (setActive none s))).2 :=
      ((setActive_stopActs none s).trans (setQueue_stopActs rest _)).trans (startPage_stopActs p _)
    unfold startFrom
    dsimp only
    split
    · exact hstart
    · exact hstart.trans (ih _)

theorem endActive_stopActs (s : State) : StopActs s (endActive s) := by
  unfold endActive endActiveThen
  split
  · exact .refl s
  · exact (((idleVoice_stopActs s).trans (setActive_stopActs none _)).trans (leaves_stopActs ..)).trans
      (startFrom_stopActs ..)

theorem makePlace_stopActs {p : Page} {s t : State} (h : makePlace p s = some t) : StopActs s t := by
  unfold makePlace at h
  split at h
  · cases h; exact .refl s
  · split at h
    · cases h; exact .refl s
    · split at h
      · cases h; exact (setQueue_stopActs _ s).trans (raiseEvent_stopActs ..)
      · cases h

theorem preemptedFate_stopActs (old : Page) (number : Nat) (s : State) : StopActs s (preemptedFate old number s) := by
  unfold preemptedFate
  dsimp only
  refine .trans ?_ (raiseEvent_stopActs ..)
  split
  · exact .refl s
  · cases h : makePlace { old with replayed := true } s with
    | none => exact .refl s
    | some t => exact (makePlace_stopActs h).trans (setQueue_stopActs _ t)

theorem preempt_stopActs (a : ActivePage) (p : Page) (s : State) : StopActs s (preempt a p s) :=
  (((((numbered_stopActs p s).trans (idleVoice_stopActs _)).trans (setActive_stopActs none _)).trans
    (leaves_stopActs ..)).trans (handedOver_stopActs ..)).trans
      ((startPage_stopActs ..).trans (preemptedFate_stopActs ..))

theorem queuePage_stopActs (p : Page) (s : State) : StopActs s (queuePage p s).1 := by
  unfold queuePage
  split
  · exact raiseEvent_stopActs ..
  · next h => exact ((makePlace_stopActs h).trans (numbered_stopActs p _)).trans (setQueue_stopActs ..)

theorem placePage_stopActs (p : Page) (s : State) : StopActs s (placePage p s).1 := by
  unfold placePage
  split
  · exact .refl s
  · split
    · exact (numbered_stopActs p s).trans (startPage_stopActs ..)
    · split
      · exact preempt_stopActs ..
      · exact queuePage_stopActs ..

/-- The STOP page's request, which is of no TALK page (R143). -/
theorem stopPageBegins_stopActs (s : State) : StopActs s (stopPageBegins s) := by
  unfold stopPageBegins requestPage
  split
  · exact raiseEvent_stopActs ..
  · split
    · exact raiseEvent_stopActs ..
    · exact placePage_stopActs ..

theorem stopPageEnds_stopActs (s : State) : StopActs s (stopPageEnds s) := by
  unfold stopPageEnds
  split
  · split
    · exact endActive_stopActs s
    · exact .refl s
  · exact .refl s

/-! ### The published values (R153 to R155) -/

theorem rampIns_stopActs (s : State) : StopActs s (forEach 1 20 rampIn s) :=
  forEach_keeps (P := StopActs s)
    (fun b u hu => hu.trans (by unfold rampIn; split; exacts [.refl u, withHsu_stopActs _ u])) 1 20 (.refl s)

theorem rampOuts_stopActs (s : State) : StopActs s (forEach 1 20 rampOut s) :=
  forEach_keeps (P := StopActs s)
    (fun b u hu => hu.trans (by unfold rampOut; split; exacts [withHsu_stopActs _ u, .refl u])) 1 20 (.refl s)

theorem onDuck_stopActs (f : Duck → Duck) (s : State) : StopActs s (onDuck f s) := withHsu_stopActs _ s

theorem raiseShowStop_stopActs (on : Bool) (s : State) : StopActs s (raiseShowStop on s) := raiseEvent_stopActs ..

theorem activateStop_stopActs (s : State) : StopActs s (activateStop s) :=
  (((onDuck_stopActs _ s).trans (stopPageBegins_stopActs _)).trans (rampIns_stopActs _)).trans
    (raiseShowStop_stopActs true _)

theorem deactivateStop_stopActs (s : State) : StopActs s (deactivateStop s) :=
  (((stopPageEnds_stopActs s).trans (onDuck_stopActs _ _)).trans (rampOuts_stopActs _)).trans
    (raiseShowStop_stopActs false _)

/-- The publication writes HSU, EVR, the memory controller and RPU, the last two only when show stop changes (R153). -/
theorem publishHold_frame (s : State) :
    ∃ h e c r, publishHold s = (((s.withHsu h).withEvr e).withCmc c).withRpu r ∧ RelayKept s.rpu r
      ∧ h.holdEffective = s.hsu.holdFormed ∧ h.stopActive = s.hsu.stopFormed
      ∧ (h.stopActive = s.hsu.stopActive → c = s.cmc ∧ r = s.rpu) := by
  have hacts : StopActs s (publishHold s) := by
    unfold publishHold
    dsimp only
    split
    · exact (withHsu_stopActs _ s).trans (activateStop_stopActs _)
    · split
      · exact (withHsu_stopActs _ s).trans (deactivateStop_stopActs _)
      · exact withHsu_stopActs _ s
  have hsteady (h : s.hsu.stopFormed = s.hsu.stopActive) : (publishHold s).cmc = s.cmc ∧ (publishHold s).rpu = s.rpu := by
    unfold publishHold
    rw [h, if_neg (by simp), if_neg (by simp)]
    exact ⟨rfl, rfl⟩
  have hheld := congrArg Still.holdEffective (publishHold_still s)
  have hstop := congrArg Still.stopActive (publishHold_still s)
  obtain ⟨h, e, c, r, hframe, hkept⟩ := hacts
  rw [hframe] at hsteady hheld hstop
  exact ⟨h, e, c, r, hframe, hkept, hheld, hstop, fun hs => hsteady (hstop.symm.trans hs)⟩

end Sys2Proof.Machine
end

section
/-!
SUPPORT. A millisecond boundary that leaves its due events to their rows, SEQ being quiet: its stages in their order, and what
they come to block by block (R162).
-/

namespace Sys2Proof.Machine

/-! ### The counts (R51, R60, R114, R131, R162, R166) -/

/-- A boundary's clock, its selector's first judgement and its debouncers' samples write nothing but TMU (R162, R164, R166). -/
theorem sampleLines_frame (i : BoundaryInputs) (s : State) :
    ∃ m, sampleLines i (judgeClock (advanceClock s)) = s.withTmu m := by
  have hjudge : ∃ m, judgeClock (advanceClock s) = s.withTmu m := by
    unfold judgeClock
    split <;> exact ⟨_, rfl⟩
  have hsample (n : Nat) (high : Bool) (u : State) (hu : ∃ m, u = s.withTmu m) :
      ∃ m, sampleLine n high u = s.withTmu m := by
    obtain ⟨m, rfl⟩ := hu
    exact ⟨_, rfl⟩
  exact hsample 4 _ _ (hsample 3 _ _ (hsample 2 _ _ (hsample 1 _ _ hjudge)))

/-- The counts of a boundary write TMU, the frame gap, the transfer, the window, the main duck, and RPU's counts. -/
theorem boundaryCounts_frame (i : BoundaryInputs) (s : State) :
    ∃ m c r, sampleLines i (judgeClock (advanceClock s)) = s.withTmu m
      ∧ boundaryCounts i s
        = (((((s.withTmu m).withClink c).withCmc
            { s.cmc with transfer := s.cmc.transfer.map fun x => { x with elapsed := x.elapsed + 1 } }).withFbg
            { s.fbg with windowMs := s.fbg.windowMs + 1 }).withHsu
            { s.hsu with duck := s.hsu.duck.advance }).withRpu r
      ∧ RelayCounted s.rpu r := by
  have hgap (u : State) : ∃ c, countGap u = u.withClink c := by
    unfold countGap
    split
    · exact ⟨u.clink, rfl⟩
    · exact ⟨_, rfl⟩
  obtain ⟨m, hm⟩ := sampleLines_frame i s
  obtain ⟨c, hc⟩ := hgap (s.withTmu m)
  obtain ⟨r, hr, hcounted⟩ := relayAdvance_counted (advanceDuck (countWindow (countTransfer ((s.withTmu m).withClink c))))
  refine ⟨m, c, r, hm, ?_, hcounted⟩
  unfold boundaryCounts
  dsimp only
  rw [hm, hc]
  exact hr

/-- A quiet SEQ stays quiet while its table stands. -/
theorem QuietSeq.congr {s u : State} (h : QuietSeq s) (hseq : u.seq = s.seq) : QuietSeq u := by
  unfold QuietSeq
  rw [hseq]
  exact h

/-- A count leaves an entry's phase and its actions, and whether its postwait runs (R60, R63). -/
theorem Entry.count_kept (e : Entry) :
    e.count.phase = e.phase ∧ e.count.outstanding = e.outstanding ∧ ∀ x, (∀ r, x ≠ .running r) →
      e.count.postwait = x → e.postwait = x := by
  unfold Entry.count
  cases hphase : e.phase <;> refine ⟨by simp, rfl, fun x hx => ?_⟩
  case prewait => exact id
  all_goals
    dsimp only
    cases e.postwait with
    | running r => exact fun h => absurd h.symm (hx _)
    | absent | waiting | ended => exact id

/-- A quiet SEQ stays quiet when its entries are counted: no entry finishes and no postwait ends by it (R63, R64). -/
theorem countSeq_quiet {s : State} (h : QuietSeq s) (held : Bool) : QuietSeq (countSeq held s) := by
  intro x hx hdone hnone
  cases held with
  | true => exact h x hx hdone hnone
  | false =>
    obtain ⟨e, he, rfl⟩ := List.mem_map.mp hx
    obtain ⟨hphase, houtstanding, hpostwait⟩ := e.2.count_kept
    obtain ⟨habsent, hwaiting, hended⟩ := h e he (hphase.symm.trans hdone) (houtstanding.symm.trans hnone)
    exact ⟨fun hc => habsent (hpostwait _ (fun _ h => nomatch h) hc),
      fun hc => hwaiting (hpostwait _ (fun _ h => nomatch h) hc),
      fun hc => hended (hpostwait _ (fun _ h => nomatch h) hc)⟩

/-! ### The work of MIX and PLY on either side of the publication (R13, R86) -/

/-- The levels of fades written write nothing but MIX. -/
theorem writeFadeLevels_frame (slots : Sparse FadeSlot) (s : State) : ∃ m, writeFadeLevels slots s = s.withMix m := by
  induction slots generalizing s with
  | nil => exact ⟨s.mix, rfl⟩
  | cons f rest ih =>
    obtain ⟨m, hm⟩ := ih (setLevel f.2.source f.2.bus f.2.level s)
    exact ⟨m, hm⟩

/-- The matrix's work at a boundary that leaves the ends of fades to their rows writes nothing but MIX (R12, R13, R17). -/
theorem matrixBoundary_frame (s : State) : ∃ m, matrixBoundary .split s = s.withMix m := by
  have hfades : ∃ m, (if holding s then s else advanceFades s) = s.withMix m := by
    split
    · exact ⟨s.mix, rfl⟩
    · obtain ⟨m, hm⟩ := writeFadeLevels_frame (s.mix.slots.map fun f => (f.1, f.2.advance))
        (s.withMix { s.mix with slots := s.mix.slots.map fun f => (f.1, f.2.advance) })
      exact ⟨m, hm⟩
  obtain ⟨m, hm⟩ := hfades
  unfold matrixBoundary
  rw [hm]
  exact ⟨_, rfl⟩

/-- MIX's and PLY's work at a boundary, as far as the order has it done at this point. -/
def matrixAndPlayers (mix ply : Bool) (s : State) : State :=
  onlyIf ply (playersBoundary .split) (onlyIf mix (matrixBoundary .split) s)

/-- It writes nothing but MIX and PLY. -/
theorem matrixAndPlayers_frame (mix ply : Bool) (s : State) :
    ∃ m p, matrixAndPlayers mix ply s = (s.withMix m).withPly p ∧ CodesKept s.ply p := by
  have hmatrix : ∃ m, onlyIf mix (matrixBoundary .split) s = s.withMix m := by
    cases mix
    · exact ⟨s.mix, rfl⟩
    · exact matrixBoundary_frame s
  obtain ⟨m, hm⟩ := hmatrix
  unfold matrixAndPlayers
  rw [hm]
  cases ply
  · exact ⟨m, s.ply, rfl, .refl _⟩
  · obtain ⟨p, hp, hkept⟩ := playersBoundary_split (s.withMix m)
    exact ⟨m, p, hp, hkept⟩

/-- Where due events are left to their rows, a step of the boundary that would take them does nothing. -/
theorem onlyIf_ifWhole_split (b : Bool) (f : State → State) (s : State) : onlyIf b (ifWhole .split f) s = s := by
  cases b <;> rfl

/-- Nor does SEQ's work past its counts. -/
theorem onlyIf_sequencerBoundary_split (b : Bool) (s : State) : onlyIf b (sequencerBoundary .split) s = s := by
  cases b <;> rfl

/-- The lamp decided, if the order has it decided at this point, is all that is written. -/
theorem onlyIf_decideLamp_frame (b : Bool) (s : State) :
    ∃ l, onlyIf b decideLamp s = s.withTmu { s.tmu with lamp := l } := by
  cases b
  · exact ⟨s.tmu.lamp, rfl⟩
  · exact ⟨_, rfl⟩

/-- What comes before HSU publishes: SEQ's counts and the work done by the old published values (R65, R153). -/
theorem boundaryBefore_split (o : BoundaryOrder) {s : State} (h : QuietSeq s) :
    ∃ m p l, boundaryBefore o .split s
        = ((((s.withSeq (countSeq (if o.seqOld then holding s else s.hsu.holdFormed) s).seq).withTmu
            { s.tmu with lamp := l }).withMix m).withPly p)
      ∧ CodesKept s.ply p := by
  unfold boundaryBefore
  simp only [onlyIf_ifWhole_split, onlyIf_sequencerBoundary_split]
  generalize (if o.seqOld then holding s else s.hsu.holdFormed) = held
  obtain ⟨l, hl⟩ := onlyIf_decideLamp_frame o.lampOld (countSeq held s)
  obtain ⟨m, p, hp, hkept⟩ := matrixAndPlayers_frame o.mixOld o.plyOld ((countSeq held s).withTmu { s.tmu with lamp := l })
  have hquiet := (countSeq_quiet h held).congr
    (u := (((countSeq held s).withTmu { s.tmu with lamp := l }).withMix m).withPly p) rfl
  refine ⟨m, p, l, ?_, hkept⟩
  rw [hl]
  exact (congrArg settleSeq hp).trans (settleSeq_of_quiet hquiet)

/-- What the blocks do that act on the new published values (R13, R86). -/
theorem boundaryAfter_split (o : BoundaryOrder) {s : State} (h : QuietSeq s) :
    ∃ m p, boundaryAfter o .split s = (s.withMix m).withPly p ∧ CodesKept s.ply p := by
  obtain ⟨m, p, hp, hkept⟩ := matrixAndPlayers_frame (!o.mixOld) (!o.plyOld) s
  refine ⟨m, p, ?_, hkept⟩
  unfold boundaryAfter
  simp only [onlyIf_ifWhole_split, onlyIf_sequencerBoundary_split]
  exact (congrArg settleSeq hp).trans (settleSeq_of_quiet (h.congr (u := (s.withMix m).withPly p) rfl))

/-! ### The rest of the boundary (R40, R81, R130, R173) -/

/-- What the preflight's walk writes: CST, the operation slot and EVR. -/
def WalkOnly (s u : State) : Prop :=
  ∃ c e o, u = ((s.withCst c).withEvr e).withCmc { s.cmc with slot := o }

theorem WalkOnly.refl (s : State) : WalkOnly s s := ⟨_, _, s.cmc.slot, rfl⟩

theorem WalkOnly.trans {s t u : State} (h : WalkOnly s t) (h' : WalkOnly t u) : WalkOnly s u := by
  obtain ⟨_, _, _, rfl⟩ := h
  obtain ⟨c, e, o, rfl⟩ := h'
  exact ⟨c, e, o, rfl⟩

theorem withCst_walkOnly (c : Cst) (s : State) : WalkOnly s (s.withCst c) := ⟨c, s.evr, s.cmc.slot, rfl⟩

theorem setSlot_walkOnly (o : Option Operation) (s : State) : WalkOnly s (setSlot o s) := ⟨s.cst, s.evr, o, rfl⟩

theorem judgeAction_walkOnly (cue : CueNumber) (index : Nat) (good : Option Bool) (w : Work) (s : State) :
    WalkOnly s (judgeAction cue index good w s) := by
  have hrecord (bad : Bool) (kind : FaultKind) (u : State) : WalkOnly u (recordIf bad cue index kind u) := by
    cases bad
    · exact .refl u
    · exact withCst_walkOnly _ u
  unfold judgeAction
  split
  · exact hrecord ..
  · split
    · exact .refl s
    · exact ((hrecord ..).trans (hrecord ..)).trans (hrecord ..)

theorem nextAction_walkOnly (verify : Bool) (w : Walk) (count : Nat) (s : State) :
    WalkOnly s (nextAction verify w count s) := by
  unfold nextAction
  split
  · exact setSlot_walkOnly _ s
  · exact (setSlot_walkOnly _ s).trans (withCst_walkOnly _ _)

theorem completePreflight_walkOnly (s : State) : WalkOnly s (completePreflight s) := by
  have hdone (kind : OpKind) (value : Nat) (u : State) : WalkOnly u (opOk kind value u) := by
    unfold opOk endOperation
    rw [raiseEvent_frame]
    exact ⟨u.cst, _, none, rfl⟩
  have hcomplete (u : State) (f : Report → Report) (kind : OpKind) (value : Nat) (clean : Bool) :
      WalkOnly u (setClean clean (opOk kind value (onReport f u))) :=
    ((withCst_walkOnly _ u).trans (hdone ..)).trans (withCst_walkOnly _ _)
  unfold completePreflight
  dsimp only
  split
  · exact hcomplete ..
  · exact (withCst_walkOnly _ s).trans (hcomplete ..)

/-- The walk's step writes CST, the operation slot and EVR (R40 to R42). -/
theorem walkStep_walkOnly (s : State) : WalkOnly s (walkStep s) := by
  unfold walkStep
  split
  · split
    · exact .refl s
    · split
      · exact completePreflight_walkOnly s
      · split
        · exact nextAction_walkOnly ..
        · split
          · exact setSlot_walkOnly _ s
          · exact (judgeAction_walkOnly ..).trans (nextAction_walkOnly ..)
  · exact .refl s

/-- The codes are formed, the lamp is decided and the walk makes its step (R40, R81, R130, R173). -/
theorem boundaryLast_split (o : BoundaryOrder) (s : State) :
    ∃ r p l, RelayCoded s.rpu r ∧ EnvelopesCoded s.ply p
      ∧ WalkOnly (((s.withRpu r).withPly p).withTmu { s.tmu with lamp := l }) (boundaryLast o .split s) := by
  obtain ⟨r, hr, hcoded⟩ := formZoneCodes_coded s
  obtain ⟨p, hp, henvelopes⟩ := formEnvelopeCodes_coded (s.withRpu r)
  obtain ⟨l, hl⟩ := onlyIf_decideLamp_frame (!o.lampOld) ((s.withRpu r).withPly p)
  refine ⟨r, p, l, hcoded, henvelopes, ?_⟩
  have hstages : boundaryLast o .split s
      = walkStep (onlyIf (!o.lampOld) decideLamp (formEnvelopeCodes (formZoneCodes s))) := by
    unfold boundaryLast
    simp only [onlyIf_ifWhole_split, ifWhole]
  rw [hstages, hr, hp, hl]
  exact walkStep_walkOnly _

/-! ### The whole boundary -/

/-- The arbiter leaves a transfer in flight (R98). -/
theorem arbitrate_of_transfer {s : State} {x : Transfer} (h : s.cmc.transfer = some x) : arbitrate s = s := by
  unfold arbitrate
  rw [h]

/-- What a boundary that leaves its due events to their rows has come to once HSU has published: SEQ counted under the hold its
order chooses, TMU but for the lamp and the window counted, the players' codes as they were, RPU counted and then written by
pages only where show stop changes, and the transfer in flight counted where it does not. -/
structure BoundaryPublished (i : BoundaryInputs) (o : BoundaryOrder) (s u : State) : Prop where
  seq : u.seq = (countSeq (if o.seqOld then s.hsu.holdEffective else u.hsu.holdEffective) s).seq
  tmu : ∃ l, u.tmu = { (sampleLines i (judgeClock (advanceClock s))).tmu with lamp := l }
  windowMs : u.fbg.windowMs = s.fbg.windowMs + 1
  ply : CodesKept s.ply u.ply
  rpu : ∃ r, RelayCounted s.rpu r ∧ RelayKept r u.rpu ∧ (u.hsu.stopActive = s.hsu.stopActive → u.rpu = r)
  transfer : u.hsu.stopActive = s.hsu.stopActive →
    u.cmc.transfer = s.cmc.transfer.map fun x => { x with elapsed := x.elapsed + 1 }

/-- The first part of such a boundary, SEQ being quiet: the counts, the work by the old published values, the publication. -/
theorem boundary_published (i : BoundaryInputs) (o : BoundaryOrder) {s : State} (h : QuietSeq s) :
    BoundaryPublished i o s (refreshAllFreezes (publishHold (boundaryBefore o .split (boundaryCounts i s)))) := by
  obtain ⟨m, c, r, hlines, hcounts, hcounted⟩ := boundaryCounts_frame i s
  obtain ⟨x, p, l, hbefore, hkept⟩ := boundaryBefore_split o (s := boundaryCounts i s) (h.congr (by rw [hcounts]; rfl))
  obtain ⟨g, e, k, r', hpublish, hpages, hheld, hstop, hsteady⟩ :=
    publishHold_frame (boundaryBefore o .split (boundaryCounts i s))
  obtain ⟨f, hfreezes⟩ := refreshAllFreezes_frame (publishHold (boundaryBefore o .split (boundaryCounts i s)))
  rw [hfreezes, hpublish, hbefore, hcounts]
  rw [hbefore, hcounts] at hpages hheld hsteady
  rw [hcounts] at hkept
  refine ⟨?_, ⟨l, by rw [hlines]; rfl⟩, rfl, hkept, ⟨r, hcounted, hpages, fun hs => (hsteady hs).2⟩,
    fun hs => congrArg Cmc.transfer (hsteady hs).1⟩
  show (countSeq (if o.seqOld then s.hsu.holdEffective else s.hsu.holdFormed) s).seq = _
  exact congrArg (fun b => (countSeq (if o.seqOld then s.hsu.holdEffective else b) s).seq) hheld.symm

/-- What the rest of a boundary that leaves its due events to their rows does from the publication `u` on: the codes are formed,
and SEQ, HSU, the governors, TMU but for the lamp, and a transfer in flight stand. -/
structure BoundaryEnded (u t : State) : Prop where
  seq : t.seq = u.seq
  hsu : t.hsu = u.hsu
  fbg : t.fbg = u.fbg
  tmu : ∃ l, t.tmu = { u.tmu with lamp := l }
  ply : ∃ p, CodesKept u.ply p ∧ EnvelopesCoded p t.ply
  rpu : RelayCoded u.rpu t.rpu
  transfer : ∀ x, u.cmc.transfer = some x → t.cmc.transfer = some x

/-- The walk's step leaves what a boundary has ended with (R40). -/
theorem BoundaryEnded.walked {u v w : State} (hv : BoundaryEnded u v) (h : WalkOnly v w) : BoundaryEnded u w := by
  obtain ⟨c, e, o, rfl⟩ := h
  exact ⟨hv.seq, hv.hsu, hv.fbg, hv.tmu, hv.ply, hv.rpu, hv.transfer⟩

/-- So does the count of its samples (R18). -/
theorem BoundaryEnded.restarted {u v : State} (hv : BoundaryEnded u v) : BoundaryEnded u (restartSamples v) :=
  ⟨hv.seq, hv.hsu, hv.fbg, hv.tmu, hv.ply, hv.rpu, hv.transfer⟩

/-- The settling leaves what a boundary has ended with, SEQ being quiet (R98). -/
theorem BoundaryEnded.settle {u v : State} (hv : BoundaryEnded u v) (h : QuietSeq u) : BoundaryEnded u (settle v) := by
  have htransfer (x : Transfer) (hx : u.cmc.transfer = some x) : (arbitrate v).cmc.transfer = some x := by
    rw [arbitrate_of_transfer (hv.transfer x hx)]
    exact hv.transfer x hx
  rw [settle_of_quiet (h.congr hv.seq)]
  exact ⟨hv.seq, hv.hsu, hv.fbg, hv.tmu, hv.ply, hv.rpu, htransfer⟩

/-- The second part of such a boundary, SEQ being quiet: the work by the new published values, the codes and the settling. -/
theorem boundary_ended (o : BoundaryOrder) {u : State} (h : QuietSeq u) :
    BoundaryEnded u (settle (restartSamples (boundaryLast o .split (boundaryAfter o .split u)))) := by
  obtain ⟨m, p, hafter, hkept⟩ := boundaryAfter_split o h
  obtain ⟨r, q, l, hcoded, henvelopes, hlast⟩ := boundaryLast_split o (boundaryAfter o .split u)
  rw [hafter] at hlast hcoded henvelopes ⊢
  have hcodes : BoundaryEnded u ((((u.withMix m).withPly p).withRpu r).withPly q |>.withTmu { u.tmu with lamp := l }) :=
    ⟨rfl, rfl, rfl, ⟨l, rfl⟩, ⟨p, hkept, henvelopes⟩, hcoded, fun _ hx => hx⟩
  exact ((hcodes.walked hlast).restarted).settle h

/-- The two parts are the boundary (R162). -/
theorem millisecondBoundary_split (i : BoundaryInputs) (o : BoundaryOrder) {s : State} (h : QuietSeq s) :
    ∃ u, BoundaryPublished i o s u ∧ BoundaryEnded u (millisecondBoundary i o .split s) :=
  have hpublished := boundary_published i o h
  ⟨_, hpublished, boundary_ended o ((countSeq_quiet h _).congr hpublished.seq)⟩

end Sys2Proof.Machine
end

section
/-!
SUPPORT. The records a boundary counts and codes, as R51, R60, R63, R130, R131 and R166 put them, and the statement about them.
-/

namespace Sys2Proof.Machine

/-! ### The lines (R166) -/

/-- A debouncer's sample, its two decisions side by side: what an undecided line becomes, and what any other counts (R166). -/
theorem Line.sample_eq (high : Bool) (l : Line) :
    l.sample high = { l with
      state := if l.state = .undecided then (if (high == l.activeHigh) = true then .blocked else .released) else l.state
      count := if l.state ≠ .undecided ∧ (high == l.activeHigh) = decide (l.state = .released) then
        min l.debounce (l.count + 1) else 0 } := by
  cases hstate : l.state <;> cases hactive : high == l.activeHigh <;>
    simp [Line.sample, Line.decideStart, Line.countSample, hstate, hactive]

/-- Sampling one line leaves the others. -/
theorem sampleLine_other {m n : Nat} (h : m ≠ n) (high : Bool) (s : State) : lineOf (sampleLine n high s) m = lineOf s m :=
  lineOf_set_other h _ s

/-- Each of the four lines is sampled once, at its pin (R166). -/
theorem lineOf_sampleLines {s : State} (h : sparseRising none s.tmu.lines = true) (i : BoundaryInputs) {n : Nat}
    {high : Bool} (hn : (n, high) ∈ [(1, i.goHigh), (2, i.holdHigh), (3, i.stopHigh), (4, i.talkHigh)]) :
    lineOf (sampleLines i s) n = (lineOf s n).sample high := by
  have hown (m : Nat) (b : Bool) {u : State} (hu : sparseRising none u.tmu.lines = true) :
      lineOf (sampleLine m b u) m = (lineOf u m).sample b := lineOf_set hu m _
  have h1 : sparseRising none (sampleLine 1 i.goHigh s).tmu.lines = true := sparseRising_write _ h 1 _
  have h2 : sparseRising none (sampleLine 2 i.holdHigh (sampleLine 1 i.goHigh s)).tmu.lines = true :=
    sparseRising_write _ h1 2 _
  have h3 : sparseRising none (sampleLine 3 i.stopHigh (sampleLine 2 i.holdHigh (sampleLine 1 i.goHigh s))).tmu.lines
      = true := sparseRising_write _ h2 3 _
  unfold sampleLines
  simp only [List.mem_cons, Prod.mk.injEq, List.not_mem_nil, or_false] at hn
  rcases hn with ⟨rfl, rfl⟩ | ⟨rfl, rfl⟩ | ⟨rfl, rfl⟩ | ⟨rfl, rfl⟩
  · rw [sampleLine_other (by decide), sampleLine_other (by decide), sampleLine_other (by decide), hown 1 _ h]
  · rw [sampleLine_other (by decide), sampleLine_other (by decide), hown 2 _ h1, sampleLine_other (by decide)]
  · rw [sampleLine_other (by decide), hown 3 _ h2, sampleLine_other (by decide), sampleLine_other (by decide)]
  · rw [hown 4 _ h3, sampleLine_other (by decide), sampleLine_other (by decide), sampleLine_other (by decide)]

/-- The lines' samples write nothing of TMU but the lines. -/
theorem sampleLines_lines (i : BoundaryInputs) (s : State) :
    ∃ x, sampleLines i s = s.withTmu { s.tmu with lines := x } := by
  have hsample (n : Nat) (high : Bool) (u : State) (hu : ∃ x, u = s.withTmu { s.tmu with lines := x }) :
      ∃ x, sampleLine n high u = s.withTmu { s.tmu with lines := x } := by
    obtain ⟨x, rfl⟩ := hu
    exact ⟨_, rfl⟩
  exact hsample 4 _ _ (hsample 3 _ _ (hsample 2 _ _ (hsample 1 _ _ ⟨s.tmu.lines, rfl⟩)))

/-- What TMU's counts at a boundary come to: the GO interval counted up, each line sampled at its pin, the GO record, the timers
and the marks as they were (R162, R164, R166, R172). -/
structure TimingCounted (i : BoundaryInputs) (s : State) (m : Tmu) : Prop where
  interval : m.interval = min 4294967295 (s.tmu.interval + 1)
  goRecord : m.goRecord = s.tmu.goRecord
  timers : m.timers = s.tmu.timers
  marks : m.marks = s.tmu.marks
  lines : ∀ n high, (n, high) ∈ [(1, i.goHigh), (2, i.holdHigh), (3, i.stopHigh), (4, i.talkHigh)] →
    sparseRead {} m.lines n = (lineOf s n).sample high

theorem sampleLines_counted {s : State} (h : sparseRising none s.tmu.lines = true) (i : BoundaryInputs) :
    TimingCounted i s (sampleLines i (judgeClock (advanceClock s))).tmu := by
  have hjudge : ∃ m, judgeClock (advanceClock s) = s.withTmu m ∧ m.interval = min 4294967295 (s.tmu.interval + 1)
      ∧ m.goRecord = s.tmu.goRecord ∧ m.timers = s.tmu.timers ∧ m.marks = s.tmu.marks ∧ m.lines = s.tmu.lines := by
    unfold judgeClock
    split <;> exact ⟨_, rfl, rfl, rfl, rfl, rfl, rfl⟩
  obtain ⟨m, hm, hinterval, hgo, htimers, hmarks, hlines⟩ := hjudge
  obtain ⟨x, hx⟩ := sampleLines_lines i (s.withTmu m)
  have hsampled (n : Nat) (high : Bool)
      (hn : (n, high) ∈ [(1, i.goHigh), (2, i.holdHigh), (3, i.stopHigh), (4, i.talkHigh)]) :
      lineOf (sampleLines i (s.withTmu m)) n = (lineOf s n).sample high := by
    rw [lineOf_sampleLines (by rw [State.withTmu_tmu, hlines]; exact h) i hn, lineOf, State.withTmu_tmu, hlines, lineOf]
  rw [hx] at hsampled
  rw [hm, hx]
  exact ⟨hinterval, hgo, htimers, hmarks, hsampled⟩

/-! ### The zones (R130, R131) -/

/-- A relay code is 0 for a zone OFF or ducked to OFF, and else the table's gain (R130). -/
theorem relayCode_eq (relay duck : Level) :
    relayCode relay duck = if relay = off ∨ relay + duck ≤ off then 0 else gainCode (min 192 (relay + duck)) := by
  unfold relayCode
  by_cases h1 : relay = off <;> by_cases h2 : relay + duck ≤ off <;> simp [h1, h2, topLevel]

/-- A settled envelope stands (R131). -/
theorem Duck.advance_of_settled {d : Duck} (h : d.run = none) : d.advance = d := by
  rw [Duck.advance, h]

/-- A running envelope moves on along the fade law, and stands at its target at the end of its time (R131). -/
theorem Duck.advance_of_running {d : Duck} {r : Running} (h : d.run = some r) :
    d.advance = if r.elapsed + 1 < r.time then
        ⟨fadeLevel r.start r.target r.time (r.elapsed + 1), some { r with elapsed := r.elapsed + 1 }⟩
      else ⟨r.target, none⟩ := by
  rw [Duck.advance, h]
  dsimp only
  by_cases hlast : r.elapsed + 1 < r.time
  · rw [if_pos hlast, if_neg (Nat.not_le.mpr hlast)]
  · rw [if_neg hlast, if_pos (Nat.not_lt.mp hlast), fadeLevel, if_pos (Nat.not_lt.mp hlast)]

/-- A zone counted, then on air or off it, then coded: only an enabled zone's codes are formed, from the level and the duck it
then has (R130). -/
theorem coded_of_counted {x y z : Zone} (h : OnAirOnly x.counted y) (hz : z = y.coded) :
    z.gr = (if x.enabled then ⟨x.gr.g1, relayCode x.relay z.duck.value⟩ else x.gr)
      ∧ z.gp = (if x.enabled then ⟨x.gp.g1, if z.paged then levelCode x.page else 0⟩ else x.gp) := by
  obtain ⟨d, i, p, rfl⟩ := h
  subst hz
  unfold Zone.coded Zone.counted
  dsimp only
  by_cases henabled : x.enabled = true
  · rw [if_pos henabled, if_pos henabled, if_pos henabled]
    exact ⟨rfl, rfl⟩
  · rw [if_neg henabled, if_neg henabled, if_neg henabled]
    exact ⟨rfl, rfl⟩

/-- A zone counted and coded: its duck advanced, its codes as they are, everything else as it was (R130, R131). -/
theorem coded_counted_eq (x : Zone) :
    x.counted.coded = { x with gr := x.counted.coded.gr, gp := x.counted.coded.gp, duck := x.duck.advance } := by
  unfold Zone.coded Zone.counted
  dsimp only
  split <;> rfl

end Sys2Proof.Machine

open Sys2Proof Sys2Proof.Machine

/-- Settles O14: the boundary is its two parts (`millisecondBoundary_split`), and each block's record is read off what the first
counts and the second codes. -/
theorem boundaryCountsEntriesLinesAndCodes : Obligations.BoundaryCountsEntriesLinesAndCodes := by
  unfold Obligations.BoundaryCountsEntriesLinesAndCodes
  intro i o s hquiet hlines hzones hplayers code
  obtain ⟨u, hpublished, hended⟩ := millisecondBoundary_split i o hquiet
  refine ⟨_, rfl, ?_⟩
  generalize millisecondBoundary i o .split s = t at hended
  obtain ⟨l, htmu⟩ := hpublished.tmu
  obtain ⟨l', htmu'⟩ := hended.tmu
  obtain ⟨r, hcounted, hkept, hsteady⟩ := hpublished.rpu
  obtain ⟨p, hcodes, hcoded⟩ := hended.ply
  rw [htmu] at htmu'
  have htiming := sampleLines_counted hlines i
  have hzone (z : Nat) (h1 : 1 ≤ z) (h2 : z ≤ 24) :
      OnAirOnly (zoneOf s z).counted (zoneOf u z) ∧ zoneOf t z = (zoneOf u z).coded := by
    have honAir := hkept.zones (hcounted.rising hzones) z
    rw [hcounted.zones hzones z h1 h2] at honAir
    exact ⟨honAir, hended.rpu.zones (hkept.rising (hcounted.rising hzones)) z h1 h2⟩
  dsimp only
  rw [hended.hsu]
  refine ⟨?_, ?_, ?_, ?_, ?_, ?_, fun n high hn => ?_, fun z h1 h2 => ?_, fun hs => ?_, ?_, fun n h1 h2 => ?_⟩
  · rw [hended.seq, hpublished.seq]
    rfl
  · rw [htmu']; exact htiming.interval
  · rw [htmu']; exact htiming.goRecord
  · rw [htmu']; exact htiming.timers
  · rw [htmu']; exact htiming.marks
  · rw [hended.fbg]; exact hpublished.windowMs
  · have hline : lineOf t n = (lineOf s n).sample high := by
      rw [lineOf, htmu']
      exact htiming.lines n high hn
    rw [hline, Line.sample_eq]
  · obtain ⟨honAir, hz⟩ := hzone z h1 h2
    obtain ⟨hgr, hgp⟩ := coded_of_counted honAir hz
    refine ⟨by rw [hgr, relayCode_eq], hgp, fun hs => ?_⟩
    have hstands : zoneOf u z = (zoneOf s z).counted := by
      rw [zoneOf, hsteady hs, hcounted.zones hzones z h1 h2, zoneOf]
    rw [hz, hstands]
    refine (coded_counted_eq _).trans ?_
    congr 1
    split
    · next hrun => exact Duck.advance_of_settled hrun
    · next hrun => exact Duck.advance_of_running hrun
  · have hrpu := hended.rpu.rest
    rw [hsteady hs, hcounted.rest] at hrpu
    rw [hrpu]
    exact ⟨rfl, rfl, rfl, fun x hx => hended.transfer _ ((hpublished.transfer hs).trans (by rw [hx]; rfl))⟩
  · rw [hended.rpu.rest, hkept.talk, hkept.settings, hcounted.rest]
    rfl
  · obtain ⟨hrising, hcode⟩ := (hpublished.ply.trans hcodes) hplayers
    have hplayer : playerOf t n = _ := hcoded hrising n h1 h2
    rw [hplayer, Player.coded, hcode]
    rfl

end

section
/-!
SUPPORT. A state whose governor table lists one index twice, which the statement about the matrix does not exclude: the freezes
of a boundary (R120) take the first of the two records out, and the second, with another trim, stands in its place.
-/

namespace Sys2Proof.Machine

/-- Governor 1 listed twice: once with trim 0 and the freeze cause of a hold that is over, once with trim 96. Crosspoint (1, 9),
on that governor's bus, stands at 0 dB. -/
def governorTwice : State :=
  { mix := { levels := [(crosspoint 1 9, 0)] }
    fbg := { governors := [(1, { freezeHold := true }), (1, { trim := 96 })] } }

/-- The boundary at `governorTwice`, all four lines HIGH and every choice of the order clear. -/
abbrev afterGovernorTwice : State := millisecondBoundary ⟨true, true, true, true⟩ {} .split governorTwice

/-- The first record, its freeze cause cleared, is what an unlisted index stands for and is no longer listed, so governor 1's
trim goes from 0 to 96 without any window judged. -/
theorem governorTwice_trim :
    (governorOf governorTwice 1).trim = 0 ∧ (governorOf (refreshFreeze 1 governorTwice) 1).trim = 96 := by decide

/-- MIX forms the code of crosspoint (1, 9) after the freezes, from the trim that has come to stand. -/
theorem governorTwice_code :
    (sparseRead ({} : Glide) afterGovernorTwice.mix.codes (crosspoint 1 9)).g1 = gainCode 96
      ∧ levelOf afterGovernorTwice 1 9 = 0 ∧ masterOf governorTwice 9 = 0 := by decide +kernel

end Sys2Proof.Machine

open Sys2Proof Sys2Proof.Machine

/-- Refutes O15: its last clause asks for no rising indices of the governor table. At `governorTwice` it claims the code of 0 dB
under the trim 0 that stands before the boundary, and the boundary forms that of +6 dB (`governorTwice_code`). -/
theorem not_boundaryMovesTheMatrix : ¬ Obligations.BoundaryMovesTheMatrix := by
  unfold Obligations.BoundaryMovesTheMatrix
  rintro ⟨-, -, -, -, -, -, -, -, -, -, -, hcodes⟩
  obtain ⟨t, ht, -, hformed⟩ := hcodes ⟨true, true, true, true⟩ {} governorTwice (quietSeq_of_empty rfl) rfl
  have htaken : afterGovernorTwice = t := Host.Outcome.next.inj ht
  subst htaken
  obtain ⟨hcode, hlevel, hmaster⟩ := governorTwice_code
  have hclaim := congrArg Glide.g1 (hformed 1 9 (by decide) (by decide) (by decide) (by decide))
  dsimp only at hclaim
  rw [hcode, hlevel, hmaster] at hclaim
  have htrim : (governorOf governorTwice (9 - 8)).trim = 0 := governorTwice_trim.1
  rw [htrim] at hclaim
  exact absurd hclaim (by decide +kernel)

end

section
/-!
SUPPORT. The event mask: what replacing it does to the raises of each kind, and what it leaves as it is (R183, R185).
-/

namespace Sys2Proof.Machine

/-! ### SET EVENT MASK -/

theorem decideSetEventMask_outOfRange {mask : Nat} (h : 262144 ≤ mask) (s : State) :
    decideSetEventMask mask s = refuse .outOfRange s := if_pos h

theorem decideSetEventMask_taken {mask : Nat} (h : mask < 262144) (s : State) :
    decideSetEventMask mask s = ⟨.ok, [.u24 mask], s.withEvr { s.evr with mask := BitVec.ofNat 18 mask }⟩ :=
  if_neg (Nat.not_le.mpr h)

/-- The show file holds nothing of EVR (R105, R185). -/
@[simp] theorem showNow_withEvr (s : State) (e : Evr) : showNow (s.withEvr e) = showNow s := rfl

@[simp] theorem showNow_heard (s : State) : showNow (hunterHome s) = showNow s := rfl

/-! ### Raises under a mask -/

/-- Every kind has its bit in the mask of eighteen (R184, R185). -/
theorem EventKind.number_pred_lt (kind : EventKind) : kind.number - 1 < 18 := by
  cases kind <;> decide

/-- Under a mask given as a number, a kind is masked by the number's bit for it (R185). -/
theorem masked_withEvr_ofNat (s : State) (slots : Sparse EventSlot) (mask : Nat) (kind : EventKind) :
    masked (s.withEvr { slots := slots, mask := BitVec.ofNat 18 mask }) kind = mask.testBit (kind.number - 1) := by
  simp only [masked, State.withEvr, BitVec.getLsbD_ofNat, kind.number_pred_lt, decide_true, Bool.true_and]

theorem raiseEvent_of_masked {kind : EventKind} {s : State} (h : masked s kind = true) (source : Nat)
    (detail : List Byte) : raiseEvent kind source detail s = s := if_pos h

/-- An occupied slot keeps ATTN asserted (R183). -/
theorem attn_of_find {s : State} {k : Nat} {e : EventSlot} (h : sparseFind s.evr.slots k = some e) : s.attn = true := by
  have hne : s.evr.slots ≠ [] := List.ne_nil_of_mem (mem_of_sparseFind h)
  simp [State.attn, hne]

end Sys2Proof.Machine

open Sys2Proof Sys2Proof.Machine

/-- Settles O49: both answers are the branches of `decideSetEventMask`; a raise afterwards is judged by the new mask's bit
(`masked_withEvr_ofNat`), and one that is recorded is read off `raiseEvent_recorded`. -/
theorem maskedKindsAreNotRecorded : Obligations.MaskedKindsAreNotRecorded := by
  unfold Obligations.MaskedKindsAreNotRecorded
  intro tag mask s hl _
  have hopen {st : Status} {c : List Field} {u : State} (ha : decideSetEventMask mask (heard s) = ⟨st, c, u⟩) :
      Decided (.setEventMask tag mask) s 0x04 tag st c u :=
    decided_of (.setEventMask mask) rfl rfl hl (fun _ h => nomatch h) ha
  refine ⟨fun hbig => hopen (decideSetEventMask_outOfRange hbig _), fun hfits => ?_⟩
  intro u
  have hbit (kind : EventKind) : masked u kind = mask.testBit (kind.number - 1) :=
    masked_withEvr_ofNat (heard s) s.evr.slots mask kind
  refine ⟨hopen (decideSetEventMask_taken hfits _), rfl, rfl, by simp [u], fun kind source detail => ⟨fun hset => ?_,
    fun hclear => ?_⟩⟩
  · exact raiseEvent_of_masked ((hbit kind).trans hset) source detail
  · obtain ⟨e, hfind, hdetail, hlatest⟩ := raiseEvent_recorded kind source detail u ((hbit kind).trans hclear)
    have hclock : (raiseEvent kind source detail u).tmu.clock = s.tmu.clock := by rw [raiseEvent_frame]; rfl
    exact ⟨e, hfind, hdetail, hlatest.trans hclock, attn_of_find hfind, fun k hk => raiseEvent_find_other hk detail u⟩

end
